-- ==== Sys2Proof/Word.lean ====
section
/-! DEFINITION. The two machine words of the framer: the byte of IBUF and OBUF, and the 32-bit register
(00_scope.md R6: "Register width is 32 bits"). All values are unsigned (R7). -/

namespace Sys2Proof

/-- One byte of IBUF or OBUF. -/
abbrev Byte := BitVec 8

/-- One 32-bit register, command word or bus datum. -/
abbrev Word := BitVec 32

end Sys2Proof
end

