-- ==== Sys2Proof/Machine/Crc.lean ====
section
/-! DEFINITION. The CRC-32/ISO-HDLC function (40_crc.md R120 to R123), in the right-shifting register form of R122. -/

namespace Sys2Proof.Machine

/-- The reflected polynomial (R120). -/
def crcPoly : Word := 0xEDB88320#32

/-- The init value, and the xorout value (R120). -/
def crcOnes : Word := 0xFFFFFFFF#32

/-- One of the eight shifts of R122. -/
def crcShift (c : Word) : Word :=
  if c.getLsbD 0 then (c >>> 1) ^^^ crcPoly else c >>> 1

/-- n shifts. -/
def crcShifts : Nat → Word → Word
  | 0, c => c
  | n + 1, c => crcShifts n (crcShift c)

/-- One byte step of the raw register (R122). -/
def crcStep (c : Word) (b : Byte) : Word := crcShifts 8 (c ^^^ b.setWidth 32)

/-- The raw register over a byte sequence (R123). -/
def crcUpdate : Word → List Byte → Word
  | c, [] => c
  | c, b :: t => crcUpdate (crcStep c b) t

/-- The final exclusive or (R127). -/
def crcFinal (c : Word) : Word := c ^^^ crcOnes

/-- CRC32 of a byte sequence (R123). The register it runs is the engine's private accumulator (R129; log 13). -/
def crc32 (s : List Byte) : Word := crcFinal (crcUpdate crcOnes s)

end Sys2Proof.Machine
end

