-- ==== Sys2Proof/Config.lean ====
section
/-! DEFINITION. What an implementation of the framer fixes (00_scope.md R6), and the free values: the values the spec leaves
unspecified (93_implementation_defined.md U1 to U4). A free value is an opaque constant: no proof can see what it is. -/

namespace Sys2Proof

/-- The parameters that R6 leaves to the implementation or the platform: "A model takes each one as an argument".
They stand in the machine's state, where no step changes them (log 3). -/
structure Params where
  /-- BUF_SIZE: the bytes in each of IBUF and OBUF; 16 ≤ BUF_SIZE ≤ 2^24. -/
  bufSize : Nat
  /-- BASE: the host address of the framer's region; aligned to 2^26. -/
  base : Nat
  deriving DecidableEq, Repr

/-- The two byte memories (10_state.md R46). -/
inductive BufId where
  | ibuf
  | obuf
  deriving DecidableEq, Repr

/-- The default of R6, with BASE, which R6 leaves OPEN, at 0: DESIGN CHOICE, unsafe (log 3). -/
def Config.defaultParams : Params := { bufSize := 65536, base := 0 }

/-- PNG_SIG (43_container.md R191): PRESUMED by the spec itself, from general knowledge (log 15). Unsafe. -/
def Config.pngSig : List Byte :=
  [0x89#8, 0x50#8, 0x4E#8, 0x47#8, 0x0D#8, 0x0A#8, 0x1A#8, 0x0A#8]

/-- ID_VALUE (10_state.md R25). -/
def Config.idValue : Word := 0x504E4743#32

/-- VERSION_VALUE (10_state.md R25). -/
def Config.versionValue : Word := 0x00010000#32

/-- The value of a read that the spec leaves unspecified, drawn afresh at each read (93 U1, U4): the free value of draw
number n (log 4). Safe: nothing constrains it. -/
opaque Config.freeWord (n : Nat) : Word

/-- What a byte of a buffer that nothing has written since hardware reset number `epoch` reads as (20_memory.md R88, 93 U2):
any byte, fixed until it is written (log 5). Safe: nothing constrains it. -/
opaque Config.initialByte (b : BufId) (epoch a : Nat) : Byte

/-- For the abandoned command of draw number n: whether byte i of its OBUF destination holds the new byte (true) or the
old one (false) (70_reset_and_hazards.md R252, 93 U3; log 6). Safe: nothing constrains it. -/
opaque Config.tornNew (n i : Nat) : Bool

end Sys2Proof
end

