-- ==== Sys2Proof/Machine/Memory.lean ====
section
/-! DEFINITION. A byte memory as plain data: the list of the bytes written since hardware reset, by rising address. A byte that
nothing has written is not listed and holds NO value here; the machine's reads give such a byte its free value
(20_memory.md R88; Machine/Ops.lean, log 5). -/

namespace Sys2Proof.Machine

/-- Written bytes, (address, byte), by strictly rising address. -/
abbrev Memory := List Host.Cell

/-- The byte written at address a, none where nothing has been written. -/
def Memory.byteAt : Memory → Nat → Option Byte
  | [], _ => none
  | (b, v) :: m, a => if b = a then some v else Memory.byteAt m a

/-- Write byte v at address a, keeping the addresses rising. -/
def Memory.store : Memory → Nat → Byte → Memory
  | [], a, v => [(a, v)]
  | (b, w) :: m, a, v =>
    if a < b then (a, v) :: (b, w) :: m
    else if a = b then (a, v) :: m
    else (b, w) :: Memory.store m a v

/-- Write a byte sequence from address a on (MemWrite, 20_memory.md R87: s[i] goes to a+i). -/
def Memory.storeBytes : Memory → Nat → List Byte → Memory
  | m, _, [] => m
  | m, a, v :: s => Memory.storeBytes (m.store a v) (a + 1) s

/-- The canonical form: addresses strictly rising. (An unlisted byte holds no value, so no entry can equal it.) -/
abbrev Memory.wf (m : Memory) : Prop := m.Pairwise fun x y => x.1 < y.1

/-- Every listed byte is one of the buffer's `size` bytes (20_memory.md R71, R72). -/
abbrev Memory.within (size : Nat) (m : Memory) : Prop := ∀ c ∈ m, c.1 < size

end Sys2Proof.Machine
end

