-- ==== Sys2Proof/Machine/State.lean ====
section
/-! DEFINITION. The state of the framer as plain data (10_state.md), what the outside can do to it, and its state after
hardware reset (70_reset_and_hazards.md R250). -/

namespace Sys2Proof.Machine

/-- CSTATE, the container session state, STATUS[9:8] (10_state.md R28, 43_container.md R192). -/
inductive CState where
  /-- 0, IDLE. -/
  | idle
  /-- 1, OPEN. -/
  | opened
  /-- 2, ENDED. -/
  | ended
  /-- 3, FAILED. -/
  | failed
  deriving DecidableEq, Repr

/-- ERR.CODE (60_exceptions.md R221). Codes 11 to 15 are reserved and never produced (R223), so they have no name here. -/
inductive ErrCode where
  /-- 0, NONE. -/
  | noError
  /-- 1, INVALID_TAG. -/
  | invalidTag
  /-- 2, INVALID_ENCODING: for host software only, never written by the framer (R223). -/
  | invalidEncoding
  /-- 3, BAD_SIGNATURE. -/
  | badSignature
  /-- 4, TRUNCATED. -/
  | truncated
  /-- 5, LENGTH_MISMATCH. -/
  | lengthMismatch
  /-- 6, CRC_MISMATCH. -/
  | crcMismatch
  /-- 7, CHUNK_NOT_FOUND: for host software only, never written by the framer (R223). -/
  | chunkNotFound
  /-- 8, RANGE. -/
  | range
  /-- 9, STATE. -/
  | sessionState
  /-- 10, BAD_COMMAND. -/
  | badCommand
  deriving DecidableEq, Repr

/-- How a command's body ends (00_scope.md R10, 60_exceptions.md R224). -/
inductive Ending where
  /-- `complete()` -/
  | complete
  /-- `raise Error(code, off)` -/
  | raise (code : ErrCode) (off : Word)
  deriving DecidableEq, Repr

/-- The width of a host access (20_memory.md R74). -/
inductive Width where
  | w8
  | w16
  | w32
  /-- Any other width: every such access is a bus error (R74). -/
  | other
  deriving DecidableEq, Repr

/-- One host bus access, at a host address (20_memory.md R73). -/
inductive Access where
  | read (w : Width) (addr : Nat)
  | write (w : Width) (addr : Nat) (data : Word)
  deriving DecidableEq, Repr

/-- What happens next: the host's accesses, the reset input, and the engine's turn (10_state.md R20, 60_exceptions.md R231,
70_reset_and_hazards.md R250; log 1). -/
inductive Event where
  /-- The bus delivers a host access. -/
  | host (a : Access)
  /-- The engine completes the command in flight, if there is one. -/
  | engine
  /-- The reset input is asserted. -/
  | assertReset
  /-- The reset input is released. -/
  | releaseReset
  deriving DecidableEq, Repr

/-- The state of the framer: 10_state.md's registers, the pending command (R45), IBUF and OBUF (R46), the reset input
(70_reset_and_hazards.md R250) and the parameters (00_scope.md R6); then the model's own fields. A register that the spec
computes from others (ID, VERSION, CRC_OUT, TAGINFO, RES_TAGINFO, BUF_SIZE, STATUS.ERRF, STATUS.END) has no field, and
STATUS.BUSY is whether a command is pending (log 16). -/
structure State where
  /-- CTRL.IE (R27). -/
  ie : Bool
  /-- The pending command word; STATUS.BUSY = 1 exactly while there is one (R28, R45). -/
  pending : Option Word
  /-- STATUS.DONE (R28). -/
  done : Bool
  /-- STATUS.WR_BUSY, sticky (R28). -/
  wrBusy : Bool
  /-- STATUS.BUS_ERR, sticky (R28). -/
  busErr : Bool
  /-- STATUS.CSTATE (R28). -/
  cstate : CState
  /-- ERR.CODE (R31). -/
  err : ErrCode
  /-- ERR_OFF (R32). -/
  errOff : Word
  /-- SRC (R33). -/
  src : Word
  /-- LEN (R34). -/
  len : Word
  /-- IBUF_LEN (R35). -/
  ibufLen : Word
  /-- OPTR (R36). -/
  optr : Word
  /-- CURSOR (R37). -/
  cursor : Word
  /-- CLEN (R38). -/
  clen : Word
  /-- CHUNK_COUNT (R39). -/
  chunkCount : Word
  /-- CRC_ACC (R40). -/
  crcAcc : Word
  /-- TAG (R42). -/
  tag : Word
  /-- RES_OFF (R44). -/
  resOff : Word
  /-- RES_LEN (R44). -/
  resLen : Word
  /-- RES_TYPE (R44). -/
  resType : Word
  /-- RES_CRC (R44). -/
  resCrc : Word
  /-- IBUF: the bytes written since hardware reset (R46; 20_memory.md R71). -/
  ibuf : Memory
  /-- OBUF: the bytes written since hardware reset (R46; 20_memory.md R72). -/
  obuf : Memory
  /-- The hardware reset input is asserted (70_reset_and_hazards.md R250). -/
  inReset : Bool
  /-- BUF_SIZE and BASE (00_scope.md R6); no step changes them. -/
  params : Params
  /-- The model's own: what happens next, oldest first (log 1). -/
  events : List Event
  /-- The model's own: the data of the host reads answered so far, newest first (log 2). -/
  responses : List Word
  /-- The model's own: the number of the next free draw (log 4). -/
  draws : Nat
  /-- The model's own: how many hardware resets have gone by (log 5). -/
  epoch : Nat
  deriving DecidableEq, Repr

/-- The state after hardware reset, for given parameters: every register at its value of 70_reset_and_hazards.md R250, no
command pending, no buffer byte written (R251), the reset input released. -/
def State.resetWith (p : Params) : State where
  ie := false
  pending := none
  done := false
  wrBusy := false
  busErr := false
  cstate := .idle
  err := .noError
  errOff := 0
  src := 0
  len := 0
  ibufLen := 0
  optr := 0
  cursor := 0
  clen := 0
  chunkCount := 0
  crcAcc := 0xFFFFFFFF#32
  tag := 0
  resOff := 0
  resLen := 0
  resType := 0
  resCrc := 0
  ibuf := []
  obuf := []
  inReset := false
  params := p
  events := []
  responses := []
  draws := 0
  epoch := 0

/-- The machine right after hardware reset (R250), with the default parameters of R6. -/
def State.reset : State := State.resetWith Config.defaultParams

/-- Why the machine would stop with a fault. There is no constructor: the framer has no trap (60_exceptions.md R220), every
command completes (70_reset_and_hazards.md R261), and every access has a defined effect (20_memory.md R73 to R76), so no
step raises one. Safe. -/
inductive Fault where
  deriving DecidableEq, Repr

/-- Why an instruction would have no meaning. -/
inductive Refusal where
  /-- Raised by an arm of exec whose instruction has no meaning yet; no arm is left that raises it. Safe. -/
  | notModelled (mnemonic : String)
  deriving DecidableEq, Repr

end Sys2Proof.Machine
end

