-- ==== Sys2Proof/Machine/Ops.lean ====
section
/-! DEFINITION. The named operations over registers and memory: byte order (00_scope.md R8), MemRead and MemWrite (R10,
20_memory.md R87), issue (30_encoding.md R106), the two completions (60_exceptions.md R224: the framer's whole analogue of
trap entry; R232: there is no return), and set_result (42_chunk.md R166). -/

namespace Sys2Proof.Machine

/-- BE32 of four bytes, first byte first (00_scope.md R8). -/
def be32 (b0 b1 b2 b3 : Byte) : Word :=
  (b0.setWidth 32 <<< 24) ||| (b1.setWidth 32 <<< 16) ||| (b2.setWidth 32 <<< 8) ||| b3.setWidth 32

/-- bytesBE32: the four bytes of v, most significant first (00_scope.md R8). -/
def bytesBE32 (v : Word) : List Byte :=
  [v.extractLsb' 24 8, v.extractLsb' 16 8, v.extractLsb' 8 8, v.extractLsb' 0 8]

/-- The four bytes of v, least significant first (20_memory.md R75). -/
def bytesLE32 (v : Word) : List Byte :=
  [v.extractLsb' 0 8, v.extractLsb' 8 8, v.extractLsb' 16 8, v.extractLsb' 24 8]

/-- Byte i of a packed tag: t[31−8i : 24−8i] (41_tag.md R140). -/
def tagByte (t : Word) (i : Nat) : Byte := t.extractLsb' (24 - 8 * i) 8

/-- STATUS.BUSY (10_state.md R28): a command is pending (log 16). -/
def State.busy (s : State) : Bool := s.pending.isSome

/-- One byte of a buffer: what was last written there, or the free value of an unwritten byte (20_memory.md R88; log 5). -/
def State.bufByte (s : State) (b : BufId) (a : Nat) : Byte :=
  match b with
  | .ibuf => (s.ibuf.byteAt a).getD (Config.initialByte .ibuf s.epoch a)
  | .obuf => (s.obuf.byteAt a).getD (Config.initialByte .obuf s.epoch a)

/-- MemRead(IBUF, a, n) (20_memory.md R87). -/
def State.memRead (s : State) (a : Nat) : Nat → List Byte
  | 0 => []
  | n + 1 => s.bufByte .ibuf a :: State.memRead s (a + 1) n

/-- BE32(IBUF, a) (20_memory.md R77). -/
def State.be32At (s : State) (a : Nat) : Word :=
  be32 (s.bufByte .ibuf a) (s.bufByte .ibuf (a + 1)) (s.bufByte .ibuf (a + 2)) (s.bufByte .ibuf (a + 3))

/-- MemWrite(OBUF, a, len(bs), bs) (20_memory.md R87). -/
def State.memWrite (s : State) (a : Nat) (bs : List Byte) : State :=
  { s with obuf := s.obuf.storeBytes a bs }

/-- set_result (42_chunk.md R166). -/
def State.setResult (s : State) (off len type crc : Word) : State :=
  { s with resOff := off, resLen := len, resType := type, resCrc := crc }

/-- The accepted write of a command word to CMD (30_encoding.md R106). -/
def State.issue (s : State) (w : Word) : State :=
  { s with pending := some w, done := false, err := .noError, errOff := 0 }

/-- `complete()` (60_exceptions.md R224): BUSY <- 0, DONE <- 1; ERR = 0 and ERR_OFF = 0 stand from issue. -/
def State.complete (s : State) : State := { s with pending := none, done := true }

/-- `raise Error(code, off)` (60_exceptions.md R224): how every error of every command is taken. -/
def State.raiseError (s : State) (code : ErrCode) (off : Word) : State :=
  { s with err := code, errOff := off, pending := none, done := true }

/-- End a command: its body's writes, and then the completion its body ended in (R224, R80). -/
def finish : State × Ending → State
  | (s, .complete) => s.complete
  | (s, .raise code off) => s.raiseError code off

end Sys2Proof.Machine
end

