-- ==== Sys2Proof/Machine/Flags.lean ====
section
/-! DEFINITION. The flags: the STATUS word (10_state.md R28), ERR.CODE (60_exceptions.md R221), the IRQ level (R229) and the
property bits of a tag (41_tag.md R141 to R149). -/

namespace Sys2Proof.Machine

/-- A flag as bit i of a word. -/
def flagBit (f : Bool) (i : Nat) : Word := if f then 1#32 <<< i else 0

/-- The number of a session state (10_state.md R28). -/
def CState.code : CState → Word
  | .idle => 0
  | .opened => 1
  | .ended => 2
  | .failed => 3

/-- The number of an error code (60_exceptions.md R221). -/
def ErrCode.code : ErrCode → Word
  | .noError => 0
  | .invalidTag => 1
  | .invalidEncoding => 2
  | .badSignature => 3
  | .truncated => 4
  | .lengthMismatch => 5
  | .crcMismatch => 6
  | .chunkNotFound => 7
  | .range => 8
  | .sessionState => 9
  | .badCommand => 10

/-- STATUS.ERRF = (ERR.CODE ≠ 0) (10_state.md R28). -/
def State.errf (s : State) : Bool := s.err != .noError

/-- STATUS.END = (CSTATE = ENDED) (10_state.md R28). -/
def State.endFlag (s : State) : Bool := s.cstate == .ended

/-- The STATUS word (10_state.md R28). -/
def State.statusWord (s : State) : Word :=
  flagBit s.busy 0 ||| flagBit s.done 1 ||| flagBit s.errf 2 ||| flagBit s.endFlag 3
    ||| flagBit s.wrBusy 4 ||| flagBit s.busErr 5 ||| (s.cstate.code <<< 8)

/-- The CTRL word: IE, with SOFT_RESET and the reserved bits reading 0 (10_state.md R27). -/
def State.ctrlWord (s : State) : Word := flagBit s.ie 0

/-- The IRQ output level: CTRL.IE AND STATUS.DONE at every instant (60_exceptions.md R229). -/
def State.irq (s : State) : Bool := s.ie && s.done

/-- CRC_OUT (40_crc.md R127). -/
def State.crcOut (s : State) : Word := crcFinal s.crcAcc

/-- An ASCII letter (41_tag.md R141). -/
def alphabetic (b : Byte) : Bool :=
  (decide (0x41 ≤ b.toNat) && decide (b.toNat ≤ 0x5A)) || (decide (0x61 ≤ b.toNat) && decide (b.toNat ≤ 0x7A))

/-- Bit 5 of a byte, mask 0x20 (41_tag.md R143). -/
def bit5 (b : Byte) : Bool := b.getLsbD 5

/-- CRITICAL (41_tag.md R143). -/
def tagCritical (t : Word) : Bool := !bit5 (tagByte t 0)

/-- PUBLIC (41_tag.md R144). -/
def tagPublic (t : Word) : Bool := !bit5 (tagByte t 1)

/-- RESERVED_VALID (41_tag.md R145). -/
def tagReservedValid (t : Word) : Bool := !bit5 (tagByte t 2)

/-- SAFE_TO_COPY: bit 5 SET (41_tag.md R146, 90_conflicts.md C2). -/
def tagSafeToCopy (t : Word) : Bool := bit5 (tagByte t 3)

/-- VALID = RESERVED_VALID (41_tag.md R147). -/
def tagValid (t : Word) : Bool := tagReservedValid t

/-- ALPHA: all four bytes are letters (41_tag.md R148). -/
def tagAlpha (t : Word) : Bool :=
  alphabetic (tagByte t 0) && alphabetic (tagByte t 1) && alphabetic (tagByte t 2) && alphabetic (tagByte t 3)

/-- ASCII: all four bytes are below 0x80 (41_tag.md R149). -/
def tagAscii (t : Word) : Bool :=
  decide ((tagByte t 0).toNat < 0x80) && decide ((tagByte t 1).toNat < 0x80)
    && decide ((tagByte t 2).toNat < 0x80) && decide ((tagByte t 3).toNat < 0x80)

/-- taginfo(t), in the low 7 bits; bits [31:7] are 0 (41_tag.md R142, 10_state.md R43). -/
def taginfo (t : Word) : Word :=
  flagBit (tagCritical t) 0 ||| flagBit (tagPublic t) 1 ||| flagBit (tagReservedValid t) 2
    ||| flagBit (tagSafeToCopy t) 3 ||| flagBit (tagValid t) 4 ||| flagBit (tagAlpha t) 5 ||| flagBit (tagAscii t) 6

end Sys2Proof.Machine
end

