-- ==== Sys2Proof/Syntax.lean ====
section
/-! DEFINITION. The framer's command set (30_encoding.md R103): one constructor per row of spec/opcode_table.json. A command
carries no operand: "No field holds an immediate, a register number or a mode" (R100). -/

namespace Sys2Proof

/-- The eleven commands of R103. -/
inductive Instr where
  /-- NOP, OP 0x00 (40_crc.md R130). -/
  | nop
  /-- CRC_INIT, OP 0x01 (40_crc.md R124). -/
  | crcInit
  /-- CRC_RANGE, OP 0x02 (40_crc.md R125). -/
  | crcRange
  /-- TAG_LOAD_TEXT, OP 0x10 (41_tag.md R150). -/
  | tagLoadText
  /-- TAG_LOAD_BYTES, OP 0x11 (41_tag.md R151). -/
  | tagLoadBytes
  /-- CHUNK_NEW, OP 0x20 (42_chunk.md R164). -/
  | chunkNew
  /-- CHUNK_VERIFY, OP 0x21 (42_chunk.md R165). -/
  | chunkVerify
  /-- CONT_BEGIN, OP 0x30 (43_container.md R193). -/
  | contBegin
  /-- CONT_NEXT, OP 0x31 (43_container.md R194). -/
  | contNext
  /-- CONT_VERIFY, OP 0x32 (43_container.md R195). -/
  | contVerify
  /-- SIG_EMIT, OP 0x33 (43_container.md R196). -/
  | sigEmit
  deriving DecidableEq, Repr

/-- Why a word is BAD_COMMAND_WORD (30_encoding.md R102, R104). -/
inductive BadWord where
  /-- RSV, bits [31:8], is not 0. -/
  | reservedBitsSet
  /-- RSV is 0 and OP is not in the table of R103. -/
  | reservedOpcode
  deriving DecidableEq, Repr

/-- What the decoder answers for a word (R102): a command, or BAD_COMMAND_WORD with its reason. -/
inductive Decoded where
  | command (i : Instr)
  | badCommandWord (why : BadWord)
  deriving DecidableEq, Repr

end Sys2Proof
end

