-- ==== Sys2Proof/WellFormed.lean ====
section
/-! DEFINITION. The checks on what comes from outside: a command word (30_encoding.md R104) and the parameters (00_scope.md R6).
A command has no operand, so every constructor of Instr is well formed as syntax; what can be ill-formed is its word. -/

namespace Sys2Proof

/-- RSV, bits [31:8], must be 0 (R100). -/
def WellFormed.reservedClear (w : Word) : Bool := w.toNat < 256

/-- OP must be one of the eleven of R103; R104 lists the others as reserved. -/
def WellFormed.opcodeAssigned (op : Byte) : Bool :=
  [0x00#8, 0x01#8, 0x02#8, 0x10#8, 0x11#8, 0x20#8, 0x21#8, 0x30#8, 0x31#8, 0x32#8, 0x33#8].contains op

/-- A command word of version 1.0 (R104: every other word is illegal). -/
def WellFormed.commandWord (w : Word) : Bool :=
  WellFormed.reservedClear w && WellFormed.opcodeAssigned (w.setWidth 8)

/-- The legal values of BUF_SIZE (R6). -/
def WellFormed.bufSizeLegal (n : Nat) : Bool := decide (16 ≤ n) && decide (n ≤ 2 ^ 24)

/-- BASE is aligned to 2^26 (R6). -/
def WellFormed.baseAligned (b : Nat) : Bool := b % 2 ^ 26 == 0

/-- Legal parameters (R6). -/
def Params.wf (p : Params) : Bool :=
  WellFormed.bufSizeLegal p.bufSize && WellFormed.baseAligned p.base

end Sys2Proof
end

