-- ==== Sys2Proof/Decode.lean ====
section
/-! DEFINITION. The decoder, total on every 32-bit word (30_encoding.md R102), and after it the encoder, written from the same
opcode map (R103). A command is one 32-bit word (R107) that reaches the framer as ONE 32-bit bus write to CMD (R30), so it
has no layout in bytes. -/

namespace Sys2Proof

/-- OP, bits [7:0] of the command word (R100). -/
def opField (w : Word) : Byte := w.extractLsb' 0 8

/-- RSV, bits [31:8] of the command word (R100). -/
def rsvField (w : Word) : BitVec 24 := w.extractLsb' 8 24

/-- The opcode map, from OP to the command (R103); none for the reserved values of R104. -/
def commandOf (op : Byte) : Option Instr :=
  match op.toNat with
  | 0x00 => some .nop
  | 0x01 => some .crcInit
  | 0x02 => some .crcRange
  | 0x10 => some .tagLoadText
  | 0x11 => some .tagLoadBytes
  | 0x20 => some .chunkNew
  | 0x21 => some .chunkVerify
  | 0x30 => some .contBegin
  | 0x31 => some .contNext
  | 0x32 => some .contVerify
  | 0x33 => some .sigEmit
  | _ => none

/-- The decoder (R102). -/
def decode (w : Word) : Decoded :=
  if rsvField w ≠ 0 then .badCommandWord .reservedBitsSet
  else
    match commandOf (opField w) with
    | some i => .command i
    | none => .badCommandWord .reservedOpcode

/-- The opcode map, from the command to OP (R103). -/
def opOf : Instr → Byte
  | .nop => 0x00#8
  | .crcInit => 0x01#8
  | .crcRange => 0x02#8
  | .tagLoadText => 0x10#8
  | .tagLoadBytes => 0x11#8
  | .chunkNew => 0x20#8
  | .chunkVerify => 0x21#8
  | .contBegin => 0x30#8
  | .contNext => 0x31#8
  | .contVerify => 0x32#8
  | .sigEmit => 0x33#8

/-- The encoder: OP in bits [7:0], RSV = 0 (R100). -/
def encode (i : Instr) : Word := (opOf i).setWidth 32

/-- The command word whose bits are w, as spec/opcode_table.json numbers them: every command is one 32-bit word, and bits
above nbits are 0. -/
def tableWord (nbits w : Nat) : Word := BitVec.ofNat 32 (w % 2 ^ nbits)

/-- What the decoder reads from the word that the opcode table numbers w; none for BAD_COMMAND_WORD. -/
def decodeTableWord (nbits w : Nat) : Option Instr :=
  match decode (tableWord nbits w) with
  | .command i => some i
  | .badCommandWord _ => none

end Sys2Proof
end

