-- ==== Sys2Proof/Machine/Operands.lean ====
section
/-! DEFINITION. The operand forms (30_encoding.md R101: the operand registers as unsigned naturals, 00_scope.md R9) and the
range test on them (20_memory.md R86). -/

namespace Sys2Proof.Machine

/-- InRange(a, n) on exact naturals (20_memory.md R86). -/
abbrev State.inRange (s : State) (a n : Nat) : Prop := a + n ≤ s.params.bufSize

/-- x[SRC] as a natural. -/
abbrev State.srcN (s : State) : Nat := s.src.toNat

/-- x[LEN] as a natural. -/
abbrev State.lenN (s : State) : Nat := s.len.toNat

/-- x[IBUF_LEN] as a natural. -/
abbrev State.ibufLenN (s : State) : Nat := s.ibufLen.toNat

/-- x[OPTR] as a natural. -/
abbrev State.optrN (s : State) : Nat := s.optr.toNat

/-- x[CURSOR] as a natural. -/
abbrev State.cursorN (s : State) : Nat := s.cursor.toNat

/-- x[CLEN] as a natural. -/
abbrev State.clenN (s : State) : Nat := s.clen.toNat

/-- A natural stored into a 32-bit register, reduced modulo 2^32 (00_scope.md R9). -/
def toReg (n : Nat) : Word := BitVec.ofNat 32 n

end Sys2Proof.Machine
end

