-- ==== Sys2Proof/Machine/ChunkFamily.lean ====
section
/-! DEFINITION. The chunk family, opcodes 0x20 to 0x2F (42_chunk.md): the check function parse_frame (R162), CHUNK_NEW (R164)
and CHUNK_VERIFY (R165). -/

namespace Sys2Proof.Machine

/-- What parse_frame returns (42_chunk.md R162): Ok(L, t, c) or Err(code). -/
inductive FrameResult where
  | ok (len type crc : Word)
  | err (code : ErrCode)
  deriving DecidableEq, Repr

/-- The bytes of a chunk frame: length, type, data, crc (42_chunk.md R160), given the type bytes t and the data d. -/
def frameBytes (t d : List Byte) : List Byte :=
  bytesBE32 (toReg d.length) ++ t ++ d ++ bytesBE32 (crc32 (t ++ d))

/-- parse_frame(a, n) over IBUF[a..a+n] (42_chunk.md R162); the CRC test comes before the length test (R163). -/
def State.parseFrame (s : State) (a n : Nat) : FrameResult :=
  if n < 12 then .err .truncated
  else
    let l := s.be32At a
    if n < 12 + l.toNat then .err .truncated
    else
      let stored := s.be32At (a + 8 + l.toNat)
      if crc32 (s.memRead (a + 4) 4 ++ s.memRead (a + 8) l.toNat) ≠ stored then .err .crcMismatch
      else if l.toNat ≠ n - 12 then .err .lengthMismatch
      else .ok l (s.be32At (a + 4)) stored

/-- The frame that CHUNK_NEW builds: the type at SRC, the data at SRC + 4 (42_chunk.md R164). -/
def State.newFrame (s : State) : List Byte :=
  frameBytes (s.memRead s.srcN 4) (s.memRead (s.srcN + 4) s.lenN)

/-- CHUNK_NEW's two range tests, source and then destination (42_chunk.md R164). -/
abbrev State.newFrameFits (s : State) : Prop :=
  s.inRange s.srcN (4 + s.lenN) ∧ s.inRange s.optrN (12 + s.lenN)

/-- The body of CHUNK_NEW (42_chunk.md R164). -/
def chunkNewBody (s : State) : State × Ending :=
  if s.newFrameFits then
    let c := crc32 (s.memRead s.srcN 4 ++ s.memRead (s.srcN + 4) s.lenN)
    let s1 := (s.memWrite s.optrN s.newFrame).setResult s.optr s.len (s.be32At s.srcN) c
    ({ s1 with optr := toReg (s.optrN + 12 + s.lenN) }, .complete)
  else (s, .raise .range 0)

/-- CHUNK_NEW (42_chunk.md R164). -/
def execChunkNew (s : State) : Host.Outcome State Fault Refusal := .next (finish (chunkNewBody s))

/-- The body of CHUNK_VERIFY (42_chunk.md R165). -/
def chunkVerifyBody (s : State) : State × Ending :=
  if s.inRange s.srcN s.lenN then
    match s.parseFrame s.srcN s.lenN with
    | .err code => (s, .raise code s.src)
    | .ok l t c => (s.setResult s.src l t c, .complete)
  else (s, .raise .range 0)

/-- CHUNK_VERIFY (42_chunk.md R165). -/
def execChunkVerify (s : State) : Host.Outcome State Fault Refusal := .next (finish (chunkVerifyBody s))

end Sys2Proof.Machine
end

