-- ==== Sys2Proof/Machine/ContainerFamily.lean ====
section
/-! DEFINITION. The container family, opcodes 0x30 to 0x3F (43_container.md): CONT_BEGIN (R193), CONT_NEXT (R194), CONT_VERIFY
(R195) and SIG_EMIT (R196), over the session state machine of R192. -/

namespace Sys2Proof.Machine

/-- IBUF starts with the signature (43_container.md R193). -/
def State.signatureGood (s : State) : Bool := s.memRead 0 8 == Config.pngSig

/-- The body of CONT_BEGIN (43_container.md R193). -/
def contBeginBody (s : State) : State × Ending :=
  if s.params.bufSize < s.ibufLenN then
    ({ s with clen := 0, cursor := 0, chunkCount := 0, cstate := .failed }, .raise .range 0)
  else if s.ibufLenN < 8 ∨ s.signatureGood = false then
    ({ s with clen := s.ibufLen, cursor := 0, chunkCount := 0, cstate := .failed }, .raise .badSignature 0)
  else
    ({ s with clen := s.ibufLen, cursor := 8, chunkCount := 0,
              cstate := if s.ibufLenN = 8 then .ended else .opened }, .complete)

/-- CONT_BEGIN (43_container.md R193). -/
def execContBegin (s : State) : Host.Outcome State Fault Refusal := .next (finish (contBeginBody s))

/-- A frame error of a container parse: the session is FAILED and ERR_OFF is the frame's offset (43_container.md R194). -/
def frameError (s : State) (code : ErrCode) : State × Ending :=
  ({ s with cstate := .failed }, .raise code s.cursor)

/-- A good frame (L, t, crc) at CURSOR: the result, and the session moved past it (43_container.md R194). -/
def acceptFrame (s : State) (l t crc : Word) : State :=
  let next := toReg (s.cursorN + 12 + l.toNat)
  { s.setResult s.cursor l t crc with
    cursor := next
    chunkCount := s.chunkCount + 1
    cstate := if next = s.clen then .ended else s.cstate }

/-- The body of CONT_NEXT (43_container.md R194). -/
def contNextBody (s : State) : State × Ending :=
  if s.cstate ≠ .opened then (s, .raise .sessionState 0)
  else
    let n := s.clenN - s.cursorN
    if n < 12 then frameError s .truncated
    else
      let l := s.be32At s.cursorN
      if n < 12 + l.toNat then frameError s .truncated
      else
        match s.parseFrame s.cursorN (12 + l.toNat) with
        | .err code => frameError s code
        | .ok l t crc => (acceptFrame s l t crc, .complete)

/-- CONT_NEXT (43_container.md R194). -/
def execContNext (s : State) : Host.Outcome State Fault Refusal := .next (finish (contNextBody s))

/-- CONT_VERIFY's loop (43_container.md R195), by fuel. -/
def verifyLoop : Nat → State → State × Ending
  | 0, s => (s, .complete)
  | fuel + 1, s =>
    if s.cstate = .opened then
      match contNextBody s with
      | (s1, .raise code off) => (s1, .raise code off)
      | (s1, .complete) => verifyLoop fuel s1
    else (s, .complete)

/-- Enough passes for the loop: each pass but the last adds at least 12 to CURSOR, which stays below CLEN
(43_container.md R195; log 14). -/
def State.verifyFuel (s : State) : Nat := s.clenN / 12 + 1

/-- The body of CONT_VERIFY (43_container.md R195). -/
def contVerifyBody (s : State) : State × Ending :=
  match contBeginBody s with
  | (s1, .raise code off) => (s1, .raise code off)
  | (s1, .complete) => verifyLoop s1.verifyFuel s1

/-- CONT_VERIFY (43_container.md R195). -/
def execContVerify (s : State) : Host.Outcome State Fault Refusal := .next (finish (contVerifyBody s))

/-- The body of SIG_EMIT (43_container.md R196). -/
def sigEmitBody (s : State) : State × Ending :=
  if s.inRange s.optrN 8 then
    ({ s.memWrite s.optrN Config.pngSig with optr := toReg (s.optrN + 8) }, .complete)
  else (s, .raise .range 0)

/-- SIG_EMIT (43_container.md R196). -/
def execSigEmit (s : State) : Host.Outcome State Fault Refusal := .next (finish (sigEmitBody s))

end Sys2Proof.Machine
end

