-- ==== Sys2Proof/Machine/Reset.lean ====
section
/-! DEFINITION. The two resets (70_reset_and_hazards.md R250 to R252) and what a soft reset leaves in OBUF of the command it
abandons. -/

namespace Sys2Proof.Machine

/-- What the pending command word decodes to (30_encoding.md R106). -/
def State.inFlight (s : State) : Option Decoded := s.pending.map decode

/-- Every register at its reset value, no command pending; the buffers, the reset input, the parameters and the model's own
fields as they were (70_reset_and_hazards.md R250). -/
def State.resetRegisters (s : State) : State :=
  { State.resetWith s.params with
    ibuf := s.ibuf, obuf := s.obuf, inReset := s.inReset, events := s.events, responses := s.responses,
    draws := s.draws, epoch := s.epoch }

/-- Write each byte of a sequence or leave the old one, by the free choices of draw n from index i on (93 U3; log 6). -/
def Memory.storeTorn (n : Nat) : Nat → Memory → Nat → List Byte → Memory
  | _, m, _, [] => m
  | i, m, a, v :: s => Memory.storeTorn n (i + 1) (if Config.tornNew n i then m.store a v else m) (a + 1) s

/-- What a command would write to OBUF at OPTR: CHUNK_NEW and SIG_EMIT write, when their range checks pass, and no other
command does (20_memory.md R72). -/
def State.obufWrite (s : State) (i : Instr) : List Byte :=
  match i with
  | .chunkNew => if s.newFrameFits then s.newFrame else []
  | .sigEmit => if s.inRange s.optrN 8 then Config.pngSig else []
  | _ => []

/-- OBUF after the pending command is abandoned (70_reset_and_hazards.md R252). -/
def State.abandonedObuf (s : State) : Memory :=
  match s.inFlight with
  | some (.command i) => Memory.storeTorn s.draws 0 s.obuf s.optrN (s.obufWrite i)
  | _ => s.obuf

/-- Soft reset (70_reset_and_hazards.md R252). -/
def State.softReset (s : State) : State :=
  { s.resetRegisters with obuf := s.abandonedObuf, draws := s.draws + 1 }

/-- The reset input is asserted (70_reset_and_hazards.md R250). -/
def State.assertReset (s : State) : State := { s with inReset := true }

/-- The reset input is released: every register at its reset value, every buffer byte unspecified
(70_reset_and_hazards.md R250, R251). With the input already released, nothing. -/
def State.releaseReset (s : State) : State :=
  if s.inReset then { s.resetRegisters with ibuf := [], obuf := [], inReset := false, epoch := s.epoch + 1 }
  else s

end Sys2Proof.Machine
end

