-- ==== Sys2Proof/Machine/Bus.lean ====
section
/-! DEFINITION. The host port: the address map (20_memory.md R73), the legal accesses (R74), the register window
(10_state.md R23), and what a host read and a host write do, idle (R24, R75, R76) and while a command runs (R81, R82). -/

namespace Sys2Proof.Machine

/-- The registers of the register window (10_state.md R23); `reserved` is every unlisted offset of it. -/
inductive Reg where
  | id
  | version
  | ctrl
  | status
  | cmd
  | err
  | errOff
  | src
  | len
  | ibufLen
  | optr
  | cursor
  | clen
  | chunkCount
  | crcAcc
  | crcOut
  | crcDin
  | tag
  | taginfo
  | resOff
  | resLen
  | resType
  | resCrc
  | resTaginfo
  | bufSize
  | reserved
  deriving DecidableEq, Repr

/-- What a host access reaches (20_memory.md R73, R74). -/
inductive Target where
  | register (r : Reg)
  /-- One byte of a buffer. -/
  | byte (b : BufId) (a : Nat)
  /-- Four bytes of a buffer. -/
  | word (b : BufId) (a : Nat)
  | busError
  deriving DecidableEq, Repr

/-- The register map (10_state.md R23). -/
def regAt (o : Nat) : Reg :=
  match o with
  | 0x000 => .id
  | 0x004 => .version
  | 0x008 => .ctrl
  | 0x00C => .status
  | 0x010 => .cmd
  | 0x014 => .err
  | 0x018 => .errOff
  | 0x01C => .src
  | 0x020 => .len
  | 0x024 => .ibufLen
  | 0x028 => .optr
  | 0x02C => .cursor
  | 0x030 => .clen
  | 0x034 => .chunkCount
  | 0x038 => .crcAcc
  | 0x03C => .crcOut
  | 0x040 => .crcDin
  | 0x044 => .tag
  | 0x048 => .taginfo
  | 0x04C => .resOff
  | 0x050 => .resLen
  | 0x054 => .resType
  | 0x058 => .resCrc
  | 0x05C => .resTaginfo
  | 0x060 => .bufSize
  | _ => .reserved

/-- The size of the host bus region (20_memory.md R70). -/
def regionSize : Nat := 0x03000000

/-- The offset of the IBUF window (20_memory.md R73). -/
def ibufWindow : Nat := 0x01000000

/-- The offset of the OBUF window (20_memory.md R73). -/
def obufWindow : Nat := 0x02000000

/-- The offset of a host address in the region; none where the framer decodes nothing (20_memory.md R73; log 12). -/
def regionOffset (p : Params) (addr : Nat) : Option Nat :=
  if p.base ≤ addr ∧ addr < p.base + regionSize then some (addr - p.base) else none

/-- An access of width w at offset a of a buffer window (20_memory.md R74). A 32-bit access whose bytes leave the buffer is a
bus error: DESIGN CHOICE, unsafe (log 9). -/
def bufTarget (p : Params) (b : BufId) (w : Width) (a : Nat) : Target :=
  match w with
  | .w8 => if a < p.bufSize then .byte b a else .busError
  | .w32 => if a % 4 = 0 ∧ a + 4 ≤ p.bufSize then .word b a else .busError
  | .w16 => .busError
  | .other => .busError

/-- What an access of width w at region offset o reaches (20_memory.md R73, R74). -/
def targetAt (p : Params) (w : Width) (o : Nat) : Target :=
  if o < 0x1000 then
    if w = .w32 ∧ o % 4 = 0 then .register (regAt o) else .busError
  else if o < ibufWindow then .busError
  else if o < obufWindow then bufTarget p .ibuf w (o - ibufWindow)
  else bufTarget p .obuf w (o - obufWindow)

/-- What a read of each register returns when it reads exactly (10_state.md R23 to R44). -/
def State.regValue (s : State) : Reg → Word
  | .id => Config.idValue
  | .version => Config.versionValue
  | .ctrl => s.ctrlWord
  | .status => s.statusWord
  | .cmd => 0
  | .err => s.err.code
  | .errOff => s.errOff
  | .src => s.src
  | .len => s.len
  | .ibufLen => s.ibufLen
  | .optr => s.optr
  | .cursor => s.cursor
  | .clen => s.clen
  | .chunkCount => s.chunkCount
  | .crcAcc => s.crcAcc
  | .crcOut => s.crcOut
  | .crcDin => 0
  | .tag => s.tag
  | .taginfo => taginfo s.tag
  | .resOff => s.resOff
  | .resLen => s.resLen
  | .resType => s.resType
  | .resCrc => s.resCrc
  | .resTaginfo => taginfo s.resType
  | .bufSize => toReg s.params.bufSize
  | .reserved => 0

/-- TAG and TAGINFO read exactly: the command in flight is not a tag command (20_memory.md R82). -/
def State.tagReadsExact (s : State) : Bool :=
  s.inFlight != some (.command .tagLoadText) && s.inFlight != some (.command .tagLoadBytes)

/-- CRC_ACC and CRC_OUT read exactly: the command in flight is not CRC_INIT or CRC_RANGE (20_memory.md R82). -/
def State.crcReadsExact (s : State) : Bool :=
  s.inFlight != some (.command .crcInit) && s.inFlight != some (.command .crcRange)

/-- Whether a register reads exactly while BUSY = 1 (20_memory.md R82). A reserved offset is no register and reads 0
(93_implementation_defined.md V2). A register that does not read exactly answers a whole free word, the reserved bits of ERR,
TAGINFO and RES_TAGINFO among them, although R24 and V2 have reserved bits read 0. DEDUCED (log 10). -/
def State.exactWhileBusy (s : State) : Reg → Bool
  | .id => true
  | .version => true
  | .ctrl => true
  | .status => true
  | .bufSize => true
  | .src => true
  | .len => true
  | .ibufLen => true
  | .optr => true
  | .reserved => true
  | .tag => s.tagReadsExact
  | .taginfo => s.tagReadsExact
  | .crcAcc => s.crcReadsExact
  | .crcOut => s.crcReadsExact
  | .cmd => false
  | .err => false
  | .errOff => false
  | .cursor => false
  | .clen => false
  | .chunkCount => false
  | .crcDin => false
  | .resOff => false
  | .resLen => false
  | .resType => false
  | .resCrc => false
  | .resTaginfo => false

/-- A 32-bit read of a buffer window, little-endian (20_memory.md R75). -/
def State.leWordAt (s : State) (b : BufId) (a : Nat) : Word :=
  be32 (s.bufByte b (a + 3)) (s.bufByte b (a + 2)) (s.bufByte b (a + 1)) (s.bufByte b a)

/-- Answer a host read with v. -/
def State.respond (s : State) (v : Word) : State := { s with responses := v :: s.responses }

/-- Answer a host read with a value drawn afresh (93_implementation_defined.md U1, U4; log 4). -/
def State.respondFree (s : State) : State :=
  { s with responses := Config.freeWord s.draws :: s.responses, draws := s.draws + 1 }

/-- Answer an 8-bit host read with an 8-bit value drawn afresh (20_memory.md R82; log 4). -/
def State.respondFreeByte (s : State) : State :=
  { s with responses := ((Config.freeWord s.draws).setWidth 8).setWidth 32 :: s.responses, draws := s.draws + 1 }

/-- Write bytes into a buffer. -/
def State.bufStore (s : State) (b : BufId) (a : Nat) (bs : List Byte) : State :=
  match b with
  | .ibuf => { s with ibuf := s.ibuf.storeBytes a bs }
  | .obuf => { s with obuf := s.obuf.storeBytes a bs }

/-- A bus error's one effect (20_memory.md R76, 60_exceptions.md R236). -/
def State.busError (s : State) : State := { s with busErr := true }

/-- A dropped write's one effect (20_memory.md R81, 60_exceptions.md R236). -/
def State.dropWrite (s : State) : State := { s with wrBusy := true }

/-- A host write of v to STATUS: the write-1-to-clear bits (10_state.md R29). -/
def State.writeStatus (s : State) (v : Word) : State :=
  { s with
    done := s.done && !v.getLsbD 1
    wrBusy := s.wrBusy && !v.getLsbD 4
    busErr := s.busErr && !v.getLsbD 5 }

/-- A host write of v to CTRL (10_state.md R27, 70_reset_and_hazards.md R252). -/
def State.writeCtrl (s : State) (v : Word) : State :=
  if v.getLsbD 1 then s.softReset else { s with ie := v.getLsbD 0 }

/-- A host write of v to CRC_DIN (40_crc.md R126). -/
def State.writeCrcDin (s : State) (v : Word) : State := { s with crcAcc := crcStep s.crcAcc (v.setWidth 8) }

/-- A host write of v to a register that accepts it: the plain RW registers store it, the four of 20_memory.md R79 have their
effect, a read-only register or a reserved offset ignores it (10_state.md R23, R24). -/
def State.writeReg (s : State) (v : Word) : Reg → State
  | .ctrl => s.writeCtrl v
  | .status => s.writeStatus v
  | .cmd => s.issue v
  | .src => { s with src := v }
  | .len => { s with len := v }
  | .ibufLen => { s with ibufLen := v }
  | .optr => { s with optr := v }
  | .crcAcc => { s with crcAcc := v }
  | .crcDin => s.writeCrcDin v
  | .tag => { s with tag := v }
  | .id => s
  | .version => s
  | .err => s
  | .errOff => s
  | .cursor => s
  | .clen => s
  | .chunkCount => s
  | .crcOut => s
  | .taginfo => s
  | .resOff => s
  | .resLen => s
  | .resType => s
  | .resCrc => s
  | .resTaginfo => s
  | .bufSize => s
  | .reserved => s

/-- The registers that a host write reaches even while BUSY = 1 (20_memory.md R81). -/
def Reg.writableWhileBusy (r : Reg) : Bool := r == .status || r == .ctrl

/-- What a host read does to the target it reaches. -/
def State.readTarget (s : State) : Target → State
  | .busError => s.busError.respond 0
  | .register r => if s.busy && !s.exactWhileBusy r then s.respondFree else s.respond (s.regValue r)
  | .byte .ibuf a => s.respond ((s.bufByte .ibuf a).setWidth 32)
  | .word .ibuf a => s.respond (s.leWordAt .ibuf a)
  | .byte .obuf a => if s.busy then s.respondFreeByte else s.respond ((s.bufByte .obuf a).setWidth 32)
  | .word .obuf a => if s.busy then s.respondFree else s.respond (s.leWordAt .obuf a)

/-- What a host write of v does to the target it reaches. -/
def State.writeTarget (s : State) (v : Word) : Target → State
  | .busError => s.busError
  | .register r => if s.busy && !r.writableWhileBusy then s.dropWrite else s.writeReg v r
  | .byte b a => if s.busy then s.dropWrite else s.bufStore b a [v.setWidth 8]
  | .word b a => if s.busy then s.dropWrite else s.bufStore b a (bytesLE32 v)

/-- One host access (20_memory.md R73 to R82). While the reset input is asserted no access is accepted: a write does nothing
and a read returns an unspecified value (70_reset_and_hazards.md R250). -/
def State.hostAccess (s : State) : Access → State
  | .read w addr =>
    match regionOffset s.params addr with
    | none => s
    | some o => if s.inReset then s.respondFree else s.readTarget (targetAt s.params w o)
  | .write w addr v =>
    match regionOffset s.params addr with
    | none => s
    | some o => if s.inReset then s else s.writeTarget v (targetAt s.params w o)

end Sys2Proof.Machine
end

