-- ==== Sys2Proof/Machine/CrcFamily.lean ====
section
/-! DEFINITION. The CRC family, opcodes 0x00 to 0x0F (40_crc.md R124, R125, R130). A command's body answers the state its
pseudocode has written and how it ends; finish takes the completion (60_exceptions.md R224). -/

namespace Sys2Proof.Machine

/-- NOP (40_crc.md R130): `complete()`. -/
def execNop (s : State) : Host.Outcome State Fault Refusal := .next s.complete

/-- The body of CRC_INIT (40_crc.md R124). -/
def crcInitBody (s : State) : State × Ending := ({ s with crcAcc := crcOnes }, .complete)

/-- CRC_INIT (40_crc.md R124). -/
def execCrcInit (s : State) : Host.Outcome State Fault Refusal := .next (finish (crcInitBody s))

/-- The body of CRC_RANGE (40_crc.md R125). -/
def crcRangeBody (s : State) : State × Ending :=
  if s.inRange s.srcN s.lenN then
    ({ s with crcAcc := crcUpdate s.crcAcc (s.memRead s.srcN s.lenN) }, .complete)
  else (s, .raise .range 0)

/-- CRC_RANGE (40_crc.md R125). -/
def execCrcRange (s : State) : Host.Outcome State Fault Refusal := .next (finish (crcRangeBody s))

end Sys2Proof.Machine
end

