-- ==== Sys2Proof/Machine/TagFamily.lean ====
section
/-! DEFINITION. The chunk-type tag family, opcodes 0x10 to 0x1F (41_tag.md R150, R151). -/

namespace Sys2Proof.Machine

/-- The four bytes at IBUF offset a are all letters (41_tag.md R150). -/
def State.lettersAt (s : State) (a : Nat) : Bool :=
  alphabetic (s.bufByte .ibuf a) && alphabetic (s.bufByte .ibuf (a + 1))
    && alphabetic (s.bufByte .ibuf (a + 2)) && alphabetic (s.bufByte .ibuf (a + 3))

/-- The body of TAG_LOAD_TEXT (41_tag.md R150). -/
def tagLoadTextBody (s : State) : State × Ending :=
  if s.inRange s.srcN s.lenN then
    if s.lenN ≠ 4 then (s, .raise .invalidTag 0)
    else if s.lettersAt s.srcN then ({ s with tag := s.be32At s.srcN }, .complete)
    else (s, .raise .invalidTag 0)
  else (s, .raise .range 0)

/-- TAG_LOAD_TEXT (41_tag.md R150). -/
def execTagLoadText (s : State) : Host.Outcome State Fault Refusal := .next (finish (tagLoadTextBody s))

/-- The body of TAG_LOAD_BYTES (41_tag.md R151). -/
def tagLoadBytesBody (s : State) : State × Ending :=
  if s.inRange s.srcN 4 then ({ s with tag := s.be32At s.srcN }, .complete)
  else (s, .raise .range 0)

/-- TAG_LOAD_BYTES (41_tag.md R151). -/
def execTagLoadBytes (s : State) : Host.Outcome State Fault Refusal := .next (finish (tagLoadBytesBody s))

end Sys2Proof.Machine
end

