-- ==== Sys2Proof/Machine/Dispatch.lean ====
section
/-! DEFINITION. exec: the engine's transition for each command, one arm per constructor of Instr (30_encoding.md R103). -/

namespace Sys2Proof.Machine

def exec (i : Instr) (s : State) : Host.Outcome State Fault Refusal :=
  match i with
  | .nop => Sys2Proof.Machine.execNop s
  | .crcInit => Sys2Proof.Machine.execCrcInit s
  | .crcRange => Sys2Proof.Machine.execCrcRange s
  | .tagLoadText => Sys2Proof.Machine.execTagLoadText s
  | .tagLoadBytes => Sys2Proof.Machine.execTagLoadBytes s
  | .chunkNew => Sys2Proof.Machine.execChunkNew s
  | .chunkVerify => Sys2Proof.Machine.execChunkVerify s
  | .contBegin => Sys2Proof.Machine.execContBegin s
  | .contNext => Sys2Proof.Machine.execContNext s
  | .contVerify => Sys2Proof.Machine.execContVerify s
  | .sigEmit => Sys2Proof.Machine.execSigEmit s

end Sys2Proof.Machine
end

