-- ==== Sys2Proof/Machine/Agents.lean ====
section
/-! DEFINITION. The agents' moves (10_state.md R20): the engine's turn, and each event of the outside. -/

namespace Sys2Proof.Machine

/-- A pending word that decodes to BAD_COMMAND_WORD runs as raise Error(BAD_COMMAND, 0) (30_encoding.md R102). -/
def execBadCommand (s : State) : State := s.raiseError .badCommand 0

/-- The engine's turn (10_state.md R20): it completes the command in flight as one transition (20_memory.md R80); with none
in flight, or with the reset input asserted (log 11), it does nothing. -/
def engineTurn (s : State) : Host.Outcome State Fault Refusal :=
  if s.inReset then .next s
  else
    match s.inFlight with
    | none => .next s
    | some (.command i) => exec i s
    | some (.badCommandWord _) => .next (execBadCommand s)

/-- One event. -/
def takeEvent (e : Event) (s : State) : Host.Outcome State Fault Refusal :=
  match e with
  | .host a => .next (s.hostAccess a)
  | .engine => engineTurn s
  | .assertReset => .next s.assertReset
  | .releaseReset => .next s.releaseReset

/-- The next move: the oldest event, and with no event left the engine's turn, so that a command never hangs
(70_reset_and_hazards.md R261; log 7). -/
def nextMove (s : State) : Host.Outcome State Fault Refusal :=
  match s.events with
  | [] => engineTurn s
  | e :: rest => takeEvent e { s with events := rest }

/-- The state in which the engine's next turn runs the command word w: w accepted by CMD, the reset input released, and the
engine's turn next (log 1). -/
def State.withCommand (s : State) (w : Word) : State :=
  { s.issue w with inReset := false, events := .engine :: s.events }

end Sys2Proof.Machine
end

