-- ==== Sys2Proof/Machine/Step.lean ====
section
/-! DEFINITION. The step of the machine, and the host's way to place one command where the next step runs it. -/

namespace Sys2Proof.Machine

/-- One step: the next move of the next agent (10_state.md R20). -/
def step (s : State) : Host.Outcome State Fault Refusal := nextMove s

/-- s with the command word that spec/opcode_table.json numbers w accepted by CMD, so that the next step runs it. The framer
fetches nothing (10_state.md R22): a command comes from the host's write to CMD (log 1). -/
def State.withFetchWord (s : State) (nbits w : Nat) : State := s.withCommand (tableWord nbits w)

end Sys2Proof.Machine
end

