-- ==== Sys2Proof/Safety.lean ====
section
/-! DEFINITION. What the claims are stated in: the machine's invariant, what no command touches, the legal host accesses, the
wire form of chunks and containers, the session state machine, and the second form of the CRC. -/

namespace Sys2Proof.Machine

/-- Codes that report a frame, with its offset in ERR_OFF (60_exceptions.md R226). -/
def ErrCode.isFrameError : ErrCode → Bool
  | .truncated => true
  | .lengthMismatch => true
  | .crcMismatch => true
  | _ => false

/-- The invariant of the framer: what holds in every state a run from reset reaches. -/
structure State.Inv (s : State) : Prop where
  /-- BUF_SIZE and BASE are legal (00_scope.md R6). -/
  params_legal : s.params.wf = true
  ibuf_wf : s.ibuf.wf
  obuf_wf : s.obuf.wf
  /-- IBUF and OBUF have BUF_SIZE bytes (20_memory.md R71, R72). -/
  ibuf_within : s.ibuf.within s.params.bufSize
  obuf_within : s.obuf.within s.params.bufSize
  /-- CURSOR ≤ CLEN ≤ BUF_SIZE (10_state.md R37). -/
  cursor_le_clen : s.cursorN ≤ s.clenN
  clen_le_bufSize : s.clenN ≤ s.params.bufSize
  /-- The session states (43_container.md R192 to R194). -/
  idle_session : s.cstate = .idle → s.cursor = 0 ∧ s.clen = 0 ∧ s.chunkCount = 0
  open_session : s.cstate = .opened → 8 ≤ s.cursorN ∧ s.cursorN < s.clenN
  ended_session : s.cstate = .ended → 8 ≤ s.cursorN ∧ s.cursor = s.clen
  /-- Each counted chunk took at least 12 bytes (10_state.md R39). -/
  count_le_cursor : 12 * s.chunkCount.toNat ≤ s.cursorN
  /-- While BUSY = 1, DONE, ERR and ERR_OFF are 0 from issue (30_encoding.md R106). -/
  issued : s.busy = true → s.done = false ∧ s.err = .noError ∧ s.errOff = 0
  /-- Codes 2 and 7 are never written (60_exceptions.md R223). -/
  err_never : s.err ≠ .invalidEncoding ∧ s.err ≠ .chunkNotFound
  /-- ERR_OFF is 0 unless ERR reports a frame (60_exceptions.md R226). -/
  errOff_zero : s.err.isFrameError = false → s.errOff = 0

/-- What no command touches: the registers only the host writes, IBUF byte by byte, the sticky bits, and what is outside the
framer. -/
structure State.HostSideSame (s t : State) : Prop where
  ie : t.ie = s.ie
  wrBusy : t.wrBusy = s.wrBusy
  busErr : t.busErr = s.busErr
  src : t.src = s.src
  len : t.len = s.len
  ibufLen : t.ibufLen = s.ibufLen
  ibufByte : ∀ a, t.bufByte .ibuf a = s.bufByte .ibuf a
  inReset : t.inReset = s.inReset
  params : t.params = s.params
  events : t.events = s.events
  responses : t.responses = s.responses
  draws : t.draws = s.draws
  epoch : t.epoch = s.epoch

/-- The container session's registers are unchanged. -/
structure State.SessionSame (s t : State) : Prop where
  cstate : t.cstate = s.cstate
  cursor : t.cursor = s.cursor
  clen : t.clen = s.clen
  chunkCount : t.chunkCount = s.chunkCount

/-- The result registers are unchanged. -/
structure State.ResultSame (s t : State) : Prop where
  resOff : t.resOff = s.resOff
  resLen : t.resLen = s.resLen
  resType : t.resType = s.resType
  resCrc : t.resCrc = s.resCrc

/-- The result registers describe the chunk (off, L, t, c) (42_chunk.md R166). -/
structure State.ResultIs (t : State) (off len type crc : Word) : Prop where
  resOff : t.resOff = off
  resLen : t.resLen = len
  resType : t.resType = type
  resCrc : t.resCrc = crc

/-- OBUF, byte by byte, and OPTR are unchanged. -/
structure State.OutputSame (s t : State) : Prop where
  obufByte : ∀ a, t.bufByte .obuf a = s.bufByte .obuf a
  optr : t.optr = s.optr

/-- The command has completed: BUSY = 0, DONE = 1 (60_exceptions.md R224), with this ERR and ERR_OFF. -/
structure State.Completed (t : State) (code : ErrCode) (off : Word) : Prop where
  busy : t.busy = false
  done : t.done = true
  err : t.err = code
  errOff : t.errOff = off

/-- ERR and ERR_OFF stand at 0, as issue leaves them (30_encoding.md R106). -/
abbrev State.IssueClear (s : State) : Prop := s.err = .noError ∧ s.errOff = 0

/-- A legal access at a region offset (20_memory.md R73, R74): 32 bits aligned in the register window; 8 bits anywhere, or
32 bits aligned, in a buffer window. -/
def legalAccess (p : Params) (w : Width) (o : Nat) : Prop :=
  (o < 0x1000 ∧ w = .w32 ∧ o % 4 = 0)
  ∨ ∃ base, (base = 0x01000000 ∨ base = 0x02000000) ∧ base ≤ o ∧
      ((w = .w8 ∧ o < base + p.bufSize) ∨ (w = .w32 ∧ o % 4 = 0 ∧ o + 4 ≤ base + p.bufSize))

/-- The host address of a region offset. -/
abbrev State.hostAddr (s : State) (o : Nat) : Nat := s.params.base + o

/-- One chunk: four type bytes and its data (42_chunk.md R160). -/
structure Chunk where
  type : List Byte
  data : List Byte
  deriving DecidableEq, Repr

/-- A chunk has exactly 4 type bytes. -/
abbrev Chunk.wf (c : Chunk) : Prop := c.type.length = 4

/-- The chunk's frame: 12 + L bytes (42_chunk.md R160). -/
def Chunk.wire (c : Chunk) : List Byte := frameBytes c.type c.data

/-- The chunk's packed type (41_tag.md R140). -/
def Chunk.packedType (c : Chunk) : Word :=
  be32 (c.type.getD 0 0) (c.type.getD 1 0) (c.type.getD 2 0) (c.type.getD 3 0)

/-- The chunk's CRC field (40_crc.md R123). -/
def Chunk.crc (c : Chunk) : Word := crc32 (c.type ++ c.data)

/-- The frames of chunks one after another, with nothing between (43_container.md R190). -/
def framesOf : List Chunk → List Byte
  | [] => []
  | c :: cs => c.wire ++ framesOf cs

/-- The container of chunks (43_container.md R190). -/
def containerOf (cs : List Chunk) : List Byte := Config.pngSig ++ framesOf cs

/-- The offset of the last frame of a container that holds at least one. -/
def lastFrameOffset (cs : List Chunk) (c : Chunk) : Nat := (containerOf cs).length - c.wire.length

/-- The transitions of CSTATE by a completed command (43_container.md R192), from the state before (s) to the state
after (t). -/
def SessionMove (i : Instr) (s t : State) : Prop :=
  match i with
  | .contBegin =>
    if t.err = .noError then t.cstate = if t.clenN = 8 then .ended else .opened
    else t.cstate = .failed
  | .contVerify => if t.err = .noError then t.cstate = .ended else t.cstate = .failed
  | .contNext =>
    if s.cstate = .opened then
      if t.err = .noError then t.cstate = if t.cursor = t.clen then .ended else .opened
      else t.cstate = .failed
    else t.cstate = s.cstate ∧ t.err = .sessionState
  | _ => t.cstate = s.cstate

/-- The error codes each command can end in (60_exceptions.md R222). -/
def possibleErrors : Instr → List ErrCode
  | .nop => [.noError]
  | .crcInit => [.noError]
  | .crcRange => [.noError, .range]
  | .tagLoadText => [.noError, .invalidTag, .range]
  | .tagLoadBytes => [.noError, .range]
  | .chunkNew => [.noError, .range]
  | .chunkVerify => [.noError, .truncated, .lengthMismatch, .crcMismatch, .range]
  | .contBegin => [.noError, .badSignature, .range]
  | .contNext => [.noError, .truncated, .crcMismatch, .sessionState]
  | .contVerify => [.noError, .badSignature, .truncated, .crcMismatch, .range]
  | .sigEmit => [.noError, .range]

/-- The bit-serial CRC register: one shift with the polynomial as given, 0x04C11DB7 (40_crc.md R120, R121). -/
def serialShift (c : Word) : Word :=
  if c.getLsbD 31 then (c <<< 1) ^^^ 0x04C11DB7#32 else c <<< 1

/-- Eight bit-serial shifts. -/
def serialShifts : Nat → Word → Word
  | 0, c => c
  | n + 1, c => serialShifts n (serialShift c)

/-- One byte, bit-reversed, into the top of the bit-serial register (40_crc.md R121). -/
def serialStep (c : Word) (b : Byte) : Word := serialShifts 8 (c ^^^ (b.reverse.setWidth 32 <<< 24))

/-- The bit-serial register over a byte sequence. -/
def serialUpdate : Word → List Byte → Word
  | c, [] => c
  | c, b :: t => serialUpdate (serialStep c b) t

/-- CRC32 in the bit-serial form: the final register bit-reversed, then xorout (40_crc.md R121). -/
def serialCrc32 (s : List Byte) : Word := (serialUpdate 0xFFFFFFFF#32 s).reverse ^^^ 0xFFFFFFFF#32

end Sys2Proof.Machine
end

