-- ==== Sys2Proof/Certificates/Slice0/Obligations.lean ====
section
/-! DEFINITION. The statements for the provers, from the numbered rules of spec/. `s` is the state a command runs in, with the
command issued (30_encoding.md R106): where a statement needs ERR and ERR_OFF to stand at 0 from issue, it assumes
`s.IssueClear`, which the invariant gives for every state with BUSY = 1. A `t` with `exec i s = .next t` is the state after the
command. -/

open Sys2Proof Sys2Proof.Machine

/-! ### Encoding -/

/-- R103: the eleven words of the opcode map; RSV = 0 is required. -/
def Obligations.DecodeReadsTheOpcodeMap : Prop :=
  decode 0x00000000#32 = .command .nop ∧ decode 0x00000001#32 = .command .crcInit
  ∧ decode 0x00000002#32 = .command .crcRange ∧ decode 0x00000010#32 = .command .tagLoadText
  ∧ decode 0x00000011#32 = .command .tagLoadBytes ∧ decode 0x00000020#32 = .command .chunkNew
  ∧ decode 0x00000021#32 = .command .chunkVerify ∧ decode 0x00000030#32 = .command .contBegin
  ∧ decode 0x00000031#32 = .command .contNext ∧ decode 0x00000032#32 = .command .contVerify
  ∧ decode 0x00000033#32 = .command .sigEmit
  ∧ ∀ (w : Word) (i : Instr), decode w = .command i → w.extractLsb' 8 24 = 0

/-- R100, R103: decoding an encoded command gives it back, and no other word decodes to it. -/
def Obligations.DecodeInvertsEncode : Prop :=
  ∀ (w : Word) (i : Instr), decode w = .command i ↔ w = encode i

/-- R104: every word with RSV ≠ 0, and every OP that R104 lists, decodes to BAD_COMMAND_WORD, and no other word does; such a
word in flight completes with ERR = BAD_COMMAND, and nothing but BUSY, DONE, ERR and ERR_OFF changes. -/
def Obligations.ReservedWordsAreBadCommands : Prop :=
  ∀ w : Word,
    ((∃ why, decode w = .badCommandWord why) ↔
      (256 ≤ w.toNat ∨ (0x03 ≤ w.toNat ∧ w.toNat ≤ 0x0F) ∨ (0x12 ≤ w.toNat ∧ w.toNat ≤ 0x1F)
        ∨ (0x22 ≤ w.toNat ∧ w.toNat ≤ 0x2F) ∨ (0x34 ≤ w.toNat ∧ w.toNat ≤ 0xFF)))
    ∧ ∀ (why : BadWord) (s : State), decode w = .badCommandWord why → s.inReset = false → s.pending = some w →
        engineTurn s = .next { s with err := .badCommand, errOff := 0, pending := none, done := true }

/-! ### The step -/

/-- R20, R80: in the engine's turn (by event, or with no event left), a pending word that decodes to a command i runs as exec
i, and nothing is added around it but that the turn is taken off the events (the list of events is the model's choice, log
1). -/
def Obligations.StepRunsTheDecodedCommand : Prop :=
  ∀ (s : State) (w : Word) (i : Instr), s.inReset = false → s.pending = some w → decode w = .command i →
    (s.events = [] → step s = exec i s)
    ∧ ∀ rest, s.events = .engine :: rest → step s = exec i { s with events := rest }

/-- R102, R104: in the engine's turn, a pending word that decodes to BAD_COMMAND_WORD completes with ERR = BAD_COMMAND, and
nothing but BUSY, DONE, ERR and ERR_OFF changes (the list of events is the model's choice, log 1). -/
def Obligations.StepRunsABadWordAsBadCommand : Prop :=
  ∀ (s : State) (w : Word) (why : BadWord) (rest : List Event), s.inReset = false → s.pending = some w →
    decode w = .badCommandWord why → s.events = .engine :: rest →
    step s = .next { s with err := .badCommand, errOff := 0, pending := none, done := true, events := rest }

/-- R20, R83: an event at the head of the events is taken whole in one step, a host access or a change of the reset input;
with nothing pending, the engine's turn and an empty list change nothing. The list is the model's choice (log 1). That
asserting the reset input changes nothing else, so that every register holds until the release, is the model's (log 11), not
R250's. -/
def Obligations.StepTakesTheOldestEvent : Prop :=
  (∀ (s : State) (a : Access) (rest : List Event), s.events = .host a :: rest →
    step s = .next ({ s with events := rest }.hostAccess a))
  ∧ (∀ (s : State) (rest : List Event), s.events = .assertReset :: rest →
    step s = .next { s with events := rest, inReset := true })
  ∧ (∀ (s : State) (rest : List Event), s.events = .releaseReset :: rest →
    step s = .next ({ s with events := rest }.releaseReset))
  ∧ ∀ s : State, s.busy = false → (s.events = [] → step s = .next s)
    ∧ ∀ rest, s.events = .engine :: rest → step s = .next { s with events := rest }

/-- R106: a write of w to CMD: accepted when idle, and then what it decodes to is the engine's next turn; dropped while BUSY.
-/
def Obligations.CommandWriteIssues : Prop :=
  ∀ (s : State) (w : Word), s.inReset = false →
    (s.busy = false → ∀ t, t = s.hostAccess (.write .w32 (s.hostAddr 0x010) w) →
      t = { s with pending := some w, done := false, err := .noError, errOff := 0 }
      ∧ t.busy = true ∧ t.inFlight = some (decode w) ∧ t.irq = false
      ∧ ∀ i, decode w = .command i → engineTurn t = exec i t)
    ∧ (s.busy = true → s.hostAccess (.write .w32 (s.hostAddr 0x010) w) = { s with wrBusy := true })

/-! ### Completion and errors -/

/-- R224, R261: every command completes, in every state, in exactly one of two ways. -/
def Obligations.EveryCommandCompletes : Prop :=
  ∀ (i : Instr) (s : State), s.IssueClear → ∃ t, exec i s = .next t ∧
    (t.Completed .noError 0 ∨ ∃ code off, code ≠ .noError ∧ t.Completed code off)

/-- R222, which the spec marks as derived from the commands' rules: the codes each command can end in, each of them in some
state, and BAD_COMMAND alone for a bad word. -/
def Obligations.ErrorCodesOfEachCommand : Prop :=
  (∀ (i : Instr) (s t : State), s.IssueClear → exec i s = .next t → t.err ∈ possibleErrors i)
  ∧ (∀ (i : Instr) (c : ErrCode), c ∈ possibleErrors i →
      ∃ s t : State, s.IssueClear ∧ s.params.wf = true ∧ exec i s = .next t ∧ t.err = c)
  ∧ ∀ (s t : State) (w : Word) (why : BadWord), s.inReset = false → s.pending = some w →
      decode w = .badCommandWord why → engineTurn s = .next t → t.err = .badCommand

/-- R226: ERR_OFF after completion is the failing frame's offset for TRUNCATED, CRC_MISMATCH and LENGTH_MISMATCH (SRC for
CHUNK_VERIFY, CURSOR for CONT_NEXT and CONT_VERIFY), and 0 for every other completion, BAD_COMMAND's among them. -/
def Obligations.ErrorOffsetAfterCompletion : Prop :=
  (∀ (i : Instr) (s t : State), s.IssueClear → exec i s = .next t →
    (t.err.isFrameError = false → t.errOff = 0)
    ∧ (t.err.isFrameError = true →
        (i = .chunkVerify ∧ t.errOff = s.src) ∨ ((i = .contNext ∨ i = .contVerify) ∧ t.errOff = t.cursor)))
  ∧ ∀ (s t : State) (w : Word) (why : BadWord), s.inReset = false → s.pending = some w →
      decode w = .badCommandWord why → engineTurn s = .next t → t.errOff = 0

/-- R225: a command that raises changes no OBUF byte, not OPTR, not CRC_ACC, not TAG, and (but for CONT_VERIFY) no result
register. -/
def Obligations.NoPartialEffectOnError : Prop :=
  ∀ (i : Instr) (s t : State), s.IssueClear → exec i s = .next t → t.err ≠ .noError →
    s.OutputSame t ∧ t.crcAcc = s.crcAcc ∧ t.tag = s.tag ∧ (i ≠ .contVerify → s.ResultSame t)

/-! ### Frames -/

/-- R101, R124, R125, R130: what the commands of the CRC family leave unchanged. -/
def Obligations.FrameOfCrcFamily : Prop :=
  ∀ (i : Instr) (s t : State), i = .nop ∨ i = .crcInit ∨ i = .crcRange → exec i s = .next t →
    s.HostSideSame t ∧ s.OutputSame t ∧ s.SessionSame t ∧ s.ResultSame t ∧ t.tag = s.tag
    ∧ (i = .nop → t.crcAcc = s.crcAcc)

/-- R101, R150, R151: what the commands of the tag family leave unchanged. -/
def Obligations.FrameOfTagFamily : Prop :=
  ∀ (i : Instr) (s t : State), i = .tagLoadText ∨ i = .tagLoadBytes → exec i s = .next t →
    s.HostSideSame t ∧ s.OutputSame t ∧ s.SessionSame t ∧ s.ResultSame t ∧ t.crcAcc = s.crcAcc

/-- R101, R164, R165: what the commands of the chunk family leave unchanged. CHUNK_NEW stores the 12 + LEN bytes from OPTR
on when both its ranges fit, and nothing otherwise. -/
def Obligations.FrameOfChunkFamily : Prop :=
  (∀ s t : State, exec .chunkNew s = .next t →
    s.HostSideSame t ∧ s.SessionSame t ∧ t.crcAcc = s.crcAcc ∧ t.tag = s.tag
    ∧ (s.newFrameFits → ∀ a, a < s.optrN ∨ s.optrN + (12 + s.lenN) ≤ a → t.bufByte .obuf a = s.bufByte .obuf a)
    ∧ (¬ s.newFrameFits → s.OutputSame t ∧ s.ResultSame t))
  ∧ ∀ s t : State, exec .chunkVerify s = .next t →
      s.HostSideSame t ∧ s.OutputSame t ∧ s.SessionSame t ∧ t.crcAcc = s.crcAcc ∧ t.tag = s.tag

/-- R101, R193 to R196: what the commands of the container family leave unchanged. SIG_EMIT stores the 8 bytes from OPTR on
when they fit, and nothing otherwise. -/
def Obligations.FrameOfContainerFamily : Prop :=
  (∀ s t : State, exec .contBegin s = .next t →
    s.HostSideSame t ∧ s.OutputSame t ∧ s.ResultSame t ∧ t.crcAcc = s.crcAcc ∧ t.tag = s.tag)
  ∧ (∀ (i : Instr) (s t : State), i = .contNext ∨ i = .contVerify → exec i s = .next t →
      s.HostSideSame t ∧ s.OutputSame t ∧ t.crcAcc = s.crcAcc ∧ t.tag = s.tag)
  ∧ ∀ s t : State, exec .sigEmit s = .next t →
      s.HostSideSame t ∧ s.SessionSame t ∧ s.ResultSame t ∧ t.crcAcc = s.crcAcc ∧ t.tag = s.tag
      ∧ (s.inRange s.optrN 8 → ∀ a, a < s.optrN ∨ s.optrN + 8 ≤ a → t.bufByte .obuf a = s.bufByte .obuf a)
      ∧ (¬ s.inRange s.optrN 8 → s.OutputSame t)

/-! ### CRC family -/

/-- R130: NOP is the all-zero word and does nothing but complete; 0x00000100 is no NOP. -/
def Obligations.NopOnlyCompletes : Prop :=
  decode 0x00000000#32 = .command .nop ∧ decode 0x00000100#32 = .badCommandWord .reservedBitsSet
  ∧ ∀ s : State, s.IssueClear →
      exec .nop s = .next { s with err := .noError, errOff := 0, pending := none, done := true }

/-- R124: CRC_INIT. -/
def Obligations.CrcInitSetsTheRegister : Prop :=
  decode 0x00000001#32 = .command .crcInit
  ∧ ∀ s : State, s.IssueClear → exec .crcInit s
      = .next { s with crcAcc := 0xFFFFFFFF#32, err := .noError, errOff := 0, pending := none, done := true }

/-- R125: CRC_RANGE feeds IBUF[SRC..SRC+LEN], or raises RANGE when the range leaves IBUF. -/
def Obligations.CrcRangeFeedsTheRange : Prop :=
  decode 0x00000002#32 = .command .crcRange
  ∧ ∀ s : State, s.IssueClear →
    (s.srcN + s.lenN ≤ s.params.bufSize → exec .crcRange s
      = .next { s with crcAcc := crcUpdate s.crcAcc (s.memRead s.srcN s.lenN), err := .noError, errOff := 0,
                       pending := none, done := true })
    ∧ (s.params.bufSize < s.srcN + s.lenN → exec .crcRange s
      = .next { s with err := .range, errOff := 0, pending := none, done := true })

/-- R126: the CRC_DIN write: one byte into CRC_ACC while idle, dropped while BUSY, a bus error when 8 bits wide. -/
def Obligations.CrcDinWriteFeedsOneByte : Prop :=
  ∀ (s : State) (v : Word), s.inReset = false →
    (s.busy = false → s.hostAccess (.write .w32 (s.hostAddr 0x040) v)
      = { s with crcAcc := crcStep s.crcAcc (v.extractLsb' 0 8) })
    ∧ (s.busy = true → s.hostAccess (.write .w32 (s.hostAddr 0x040) v) = { s with wrBusy := true })
    ∧ s.hostAccess (.write .w8 (s.hostAddr 0x040) v) = { s with busErr := true }

/-- Feeding a sequence in pieces is feeding it whole: derived by the spec from R122 and R123 (its R131). -/
def Obligations.CrcUpdateSplits : Prop :=
  ∀ (c : Word) (s t : List Byte), crcUpdate (crcUpdate c s) t = crcUpdate c (s ++ t)

/-- The CRC is linear over GF(2) apart from the init and xorout constants: derived by the spec from R122 and R123 (its
R131). -/
def Obligations.CrcIsLinear : Prop :=
  ∀ s e : List Byte, e.length = s.length →
    crc32 (List.zipWith (· ^^^ ·) s e) = crc32 s ^^^ crc32 e ^^^ crc32 (List.replicate s.length 0)

/-- Derived by the spec from R120 and R121: the bit-serial form with 0x04C11DB7 (bytes in bit-reversed, final register bit-
reversed) gives the same CRC as the right-shifting register with 0xEDB88320. -/
def Obligations.CrcBitSerialFormAgrees : Prop := ∀ s : List Byte, serialCrc32 s = crc32 s

/-- Changing one byte of a sequence (a single-bit flip among the changes) changes its CRC: derived by the spec from R122 and
R123 (its R131). -/
def Obligations.CrcDetectsAChangedByte : Prop :=
  ∀ (s t : List Byte) (b e : Byte), e ≠ 0 → crc32 (s ++ (b ^^^ e) :: t) ≠ crc32 (s ++ b :: t)

/-! ### Tag family -/

/-- R140 to R149: every bit of taginfo(t) from the four bytes of t, and bits [31:7] zero. -/
def Obligations.TaginfoReadsTheTagBytes : Prop :=
  ∀ b0 b1 b2 b3 : Byte,
    (taginfo (be32 b0 b1 b2 b3)).getLsbD 0 = !b0.getLsbD 5
    ∧ (taginfo (be32 b0 b1 b2 b3)).getLsbD 1 = !b1.getLsbD 5
    ∧ (taginfo (be32 b0 b1 b2 b3)).getLsbD 2 = !b2.getLsbD 5
    ∧ (taginfo (be32 b0 b1 b2 b3)).getLsbD 3 = b3.getLsbD 5
    ∧ (taginfo (be32 b0 b1 b2 b3)).getLsbD 4 = !b2.getLsbD 5
    ∧ ((taginfo (be32 b0 b1 b2 b3)).getLsbD 5 = true ↔ ∀ b ∈ [b0, b1, b2, b3],
        (0x41 ≤ b.toNat ∧ b.toNat ≤ 0x5A) ∨ (0x61 ≤ b.toNat ∧ b.toNat ≤ 0x7A))
    ∧ ((taginfo (be32 b0 b1 b2 b3)).getLsbD 6 = true ↔ ∀ b ∈ [b0, b1, b2, b3], b.toNat < 0x80)
    ∧ ∀ i, 7 ≤ i → (taginfo (be32 b0 b1 b2 b3)).getLsbD i = false

/-- R150: TAG_LOAD_TEXT, its checks in their order. -/
def Obligations.TagLoadTextChecksAndLoads : Prop :=
  decode 0x00000010#32 = .command .tagLoadText
  ∧ ∀ s : State, s.IssueClear →
    (s.params.bufSize < s.srcN + s.lenN → exec .tagLoadText s
      = .next { s with err := .range, errOff := 0, pending := none, done := true })
    ∧ (s.srcN + s.lenN ≤ s.params.bufSize →
        s.lenN ≠ 4 ∨ (∃ k, k < 4 ∧ alphabetic (s.bufByte .ibuf (s.srcN + k)) = false) →
        exec .tagLoadText s = .next { s with err := .invalidTag, errOff := 0, pending := none, done := true })
    ∧ (s.srcN + s.lenN ≤ s.params.bufSize → s.lenN = 4 →
        (∀ k, k < 4 → alphabetic (s.bufByte .ibuf (s.srcN + k)) = true) →
        exec .tagLoadText s
          = .next { s with tag := s.be32At s.srcN, err := .noError, errOff := 0, pending := none, done := true })

/-- R151: TAG_LOAD_BYTES. -/
def Obligations.TagLoadBytesLoads : Prop :=
  decode 0x00000011#32 = .command .tagLoadBytes
  ∧ ∀ s : State, s.IssueClear →
    (s.srcN + 4 ≤ s.params.bufSize → exec .tagLoadBytes s
      = .next { s with tag := s.be32At s.srcN, err := .noError, errOff := 0, pending := none, done := true })
    ∧ (s.params.bufSize < s.srcN + 4 → exec .tagLoadBytes s
      = .next { s with err := .range, errOff := 0, pending := none, done := true })

/-! ### Chunk family -/

/-- R164: CHUNK_NEW with both ranges inside their buffers: every byte of the frame, the result, OPTR; RANGE with no other
effect when a range leaves its buffer. -/
def Obligations.ChunkNewWritesTheFrame : Prop :=
  decode 0x00000020#32 = .command .chunkNew
  ∧ ∀ s : State, s.IssueClear → s.params.wf = true →
    (s.srcN + (4 + s.lenN) ≤ s.params.bufSize → s.optrN + (12 + s.lenN) ≤ s.params.bufSize →
      ∃ t, exec .chunkNew s = .next t
        ∧ t.Completed .noError 0
        ∧ t.ResultIs s.optr s.len (s.be32At s.srcN) (crc32 (s.memRead s.srcN (4 + s.lenN)))
        ∧ t.optrN = s.optrN + 12 + s.lenN
        ∧ (∀ k, k < 4 → t.bufByte .obuf (s.optrN + k) = (bytesBE32 s.len).getD k 0)
        ∧ (∀ k, k < 4 + s.lenN → t.bufByte .obuf (s.optrN + 4 + k) = s.bufByte .ibuf (s.srcN + k))
        ∧ (∀ k, k < 4 → t.bufByte .obuf (s.optrN + 8 + s.lenN + k)
            = (bytesBE32 (crc32 (s.memRead s.srcN (4 + s.lenN)))).getD k 0)
        ∧ t.crcAcc = s.crcAcc)
    ∧ (s.params.bufSize < s.srcN + (4 + s.lenN) ∨ s.params.bufSize < s.optrN + (12 + s.lenN) →
      exec .chunkNew s = .next { s with err := .range, errOff := 0, pending := none, done := true })

/-- R165, R162: CHUNK_VERIFY, its checks in their order; l is the declared length. -/
def Obligations.ChunkVerifyChecksInOrder : Prop :=
  decode 0x00000021#32 = .command .chunkVerify
  ∧ ∀ (s : State) (l : Nat), s.IssueClear → l = (s.be32At s.srcN).toNat →
    (s.params.bufSize < s.srcN + s.lenN → exec .chunkVerify s
      = .next { s with err := .range, errOff := 0, pending := none, done := true })
    ∧ (s.srcN + s.lenN ≤ s.params.bufSize →
      (s.lenN < 12 ∨ s.lenN < 12 + l → exec .chunkVerify s
        = .next { s with err := .truncated, errOff := s.src, pending := none, done := true })
      ∧ (12 + l ≤ s.lenN →
        (crc32 (s.memRead (s.srcN + 4) (4 + l)) ≠ s.be32At (s.srcN + 8 + l) → exec .chunkVerify s
          = .next { s with err := .crcMismatch, errOff := s.src, pending := none, done := true })
        ∧ (crc32 (s.memRead (s.srcN + 4) (4 + l)) = s.be32At (s.srcN + 8 + l) →
          (12 + l ≠ s.lenN → exec .chunkVerify s
            = .next { s with err := .lengthMismatch, errOff := s.src, pending := none, done := true })
          ∧ (12 + l = s.lenN → exec .chunkVerify s
            = .next { s with resOff := s.src, resLen := s.be32At s.srcN, resType := s.be32At (s.srcN + 4),
                             resCrc := s.be32At (s.srcN + 8 + l), err := .noError, errOff := 0,
                             pending := none, done := true }))))

/-- Derived by the spec from R162 and R165 (its R161): CHUNK_VERIFY accepts a region exactly when it lies in IBUF and holds
the bytes of one chunk's frame. -/
def Obligations.ChunkVerifyAcceptsExactlyFrames : Prop :=
  ∀ s t : State, s.IssueClear → exec .chunkVerify s = .next t →
    (t.err = .noError ↔
      s.srcN + s.lenN ≤ s.params.bufSize ∧ ∃ c : Chunk, c.wf ∧ s.memRead s.srcN s.lenN = c.wire)

/-- Derived by the spec from R160, R162 and R164 (its R167): what CHUNK_NEW wrote, copied to IBUF, verifies with the same
result; u is the state of the CHUNK_VERIFY. -/
def Obligations.ChunkRoundTrip : Prop :=
  ∀ s t u : State, s.IssueClear → exec .chunkNew s = .next t → t.err = .noError →
    u.IssueClear → u.lenN = 12 + s.lenN → u.srcN + u.lenN ≤ u.params.bufSize →
    (∀ k, k < 12 + s.lenN → u.bufByte .ibuf (u.srcN + k) = t.bufByte .obuf (s.optrN + k)) →
    ∃ v, exec .chunkVerify u = .next v ∧ v.Completed .noError 0
      ∧ v.ResultIs u.src t.resLen t.resType t.resCrc
      ∧ ∀ k, k < s.lenN → u.bufByte .ibuf (u.srcN + 8 + k) = s.bufByte .ibuf (s.srcN + 4 + k)

/-- Derived by the spec from R162 (its R168): a correct frame whose length field alone is changed to l' fails: TRUNCATED for
a larger one, CRC_MISMATCH for a smaller one, but for the coincidence that gives LENGTH_MISMATCH. -/
def Obligations.LengthIntegrity : Prop :=
  ∀ (s : State) (c : Chunk) (l' : Word), c.wf → s.IssueClear → s.lenN = 12 + c.data.length →
    s.srcN + s.lenN ≤ s.params.bufSize → s.memRead s.srcN 4 = bytesBE32 l' →
    s.memRead (s.srcN + 4) (8 + c.data.length) = c.wire.drop 4 →
    (c.data.length < l'.toNat → ∃ t, exec .chunkVerify s = .next t ∧ t.Completed .truncated s.src)
    ∧ (l'.toNat < c.data.length → ∃ t, exec .chunkVerify s = .next t ∧
        t.Completed (if crc32 (c.type ++ c.data.take l'.toNat) = s.be32At (s.srcN + 8 + l'.toNat)
          then .lengthMismatch else .crcMismatch) s.src)

/-- Derived by the spec from R122, R123 and R162 (its R131 and R165): a correct frame with one byte of its type, data or crc
changed (a flipped bit among the changes) gives CRC_MISMATCH. -/
def Obligations.ChangedFrameByteIsCrcMismatch : Prop :=
  ∀ (s : State) (c : Chunk) (k : Nat) (e : Byte), c.wf → s.IssueClear → e ≠ 0 → 4 ≤ k → k < c.wire.length →
    s.lenN = c.wire.length → s.srcN + s.lenN ≤ s.params.bufSize →
    s.memRead s.srcN s.lenN = c.wire.modify k (· ^^^ e) →
    ∃ t, exec .chunkVerify s = .next t ∧ t.Completed .crcMismatch s.src

/-! ### Container family -/

/-- R192: the transitions of CSTATE by commands; no host access but a soft reset changes it, and both resets set it to IDLE.
-/
def Obligations.SessionTransitions : Prop :=
  (∀ (i : Instr) (s t : State), s.IssueClear → exec i s = .next t → SessionMove i s t)
  ∧ (∀ (s : State) (a : Access), (∀ v, v.getLsbD 1 = true → a ≠ .write .w32 (s.hostAddr 0x008) v) →
      (s.hostAccess a).cstate = s.cstate)
  ∧ (∀ (s : State) (v : Word), s.inReset = false → v.getLsbD 1 = true →
      (s.hostAccess (.write .w32 (s.hostAddr 0x008) v)).cstate = .idle)
  ∧ ∀ s : State, s.inReset = true → s.releaseReset.cstate = .idle

/-- R193: CONT_BEGIN. -/
def Obligations.ContBeginOpensASession : Prop :=
  decode 0x00000030#32 = .command .contBegin
  ∧ ∀ s : State, s.IssueClear →
    (s.params.bufSize < s.ibufLenN → exec .contBegin s
      = .next { s with clen := 0, cursor := 0, chunkCount := 0, cstate := .failed, err := .range, errOff := 0,
                       pending := none, done := true })
    ∧ (s.ibufLenN ≤ s.params.bufSize → s.ibufLenN < 8 ∨ s.memRead 0 8 ≠ Config.pngSig → exec .contBegin s
      = .next { s with clen := s.ibufLen, cursor := 0, chunkCount := 0, cstate := .failed, err := .badSignature,
                       errOff := 0, pending := none, done := true })
    ∧ (s.ibufLenN ≤ s.params.bufSize → 8 ≤ s.ibufLenN → s.memRead 0 8 = Config.pngSig → exec .contBegin s
      = .next { s with clen := s.ibufLen, cursor := 8, chunkCount := 0,
                       cstate := if s.ibufLenN = 8 then .ended else .opened, err := .noError, errOff := 0,
                       pending := none, done := true })

/-- R194: CONT_NEXT, its checks in their order; l is the length field at CURSOR. -/
def Obligations.ContNextTakesOneFrame : Prop :=
  decode 0x00000031#32 = .command .contNext
  ∧ ∀ (s : State) (l : Nat), s.IssueClear → l = (s.be32At s.cursorN).toNat →
    (s.cstate ≠ .opened → exec .contNext s
      = .next { s with err := .sessionState, errOff := 0, pending := none, done := true })
    ∧ (s.cstate = .opened →
      (s.clenN < s.cursorN + 12 ∨ s.clenN < s.cursorN + 12 + l → exec .contNext s
        = .next { s with cstate := .failed, err := .truncated, errOff := s.cursor, pending := none, done := true })
      ∧ (s.cursorN + 12 + l ≤ s.clenN →
        (crc32 (s.memRead (s.cursorN + 4) (4 + l)) ≠ s.be32At (s.cursorN + 8 + l) → exec .contNext s
          = .next { s with cstate := .failed, err := .crcMismatch, errOff := s.cursor, pending := none, done := true })
        ∧ (crc32 (s.memRead (s.cursorN + 4) (4 + l)) = s.be32At (s.cursorN + 8 + l) →
          ∃ t, exec .contNext s = .next t ∧ t.Completed .noError 0
            ∧ t.ResultIs s.cursor (s.be32At s.cursorN) (s.be32At (s.cursorN + 4)) (s.be32At (s.cursorN + 8 + l))
            ∧ t.cursorN = s.cursorN + 12 + l ∧ t.clen = s.clen ∧ t.chunkCount = s.chunkCount + 1
            ∧ t.cstate = if s.cursorN + 12 + l = s.clenN then .ended else .opened)))

/-- R38, R194: CONT_NEXT uses CLEN, not IBUF_LEN, and no IBUF byte at or past CLEN. -/
def Obligations.ContNextReadsOnlyBelowClen : Prop :=
  ∀ (s t : State) (m : Memory) (n : Word),
    (∀ a, a < s.clenN → { s with ibuf := m }.bufByte .ibuf a = s.bufByte .ibuf a) →
    exec .contNext s = .next t →
    exec .contNext { s with ibuf := m, ibufLen := n } = .next { t with ibuf := m, ibufLen := n }

/-- R190, R195; the round trip the spec derives from them (its R199): CONT_VERIFY of IBUF[0..IBUF_LEN] = the container of cs
succeeds, counts every chunk and ends at CLEN with the last chunk as its result. -/
def Obligations.ContVerifyAcceptsContainers : Prop :=
  ∀ (s : State) (cs : List Chunk), (∀ c ∈ cs, c.wf) → s.IssueClear → s.ibufLenN ≤ s.params.bufSize →
    s.memRead 0 s.ibufLenN = containerOf cs →
    ∃ t, exec .contVerify s = .next t ∧ t.Completed .noError 0 ∧ t.cstate = .ended
      ∧ t.clen = s.ibufLen ∧ t.cursor = s.ibufLen ∧ t.chunkCount.toNat = cs.length
      ∧ (cs = [] → s.ResultSame t)
      ∧ ∀ c, cs.getLast? = some c →
          t.ResultIs (toReg (lastFrameOffset cs c)) (toReg c.data.length) c.packedType c.crc

/-- R162, R195; the invariants the spec derives (its R161): CONT_VERIFY accepts nothing but a container. -/
def Obligations.ContVerifyAcceptsOnlyContainers : Prop :=
  ∀ s t : State, s.IssueClear → exec .contVerify s = .next t → t.err = .noError →
    s.ibufLenN ≤ s.params.bufSize ∧
    ∃ cs : List Chunk, (∀ c ∈ cs, c.wf) ∧ s.memRead 0 s.ibufLenN = containerOf cs ∧ t.chunkCount.toNat = cs.length

/-- R195, R225, R226: a container whose frames cs are good and whose next frame, at p, is not: CONT_VERIFY fails at p, with
the good frames counted and the last of them as its result. -/
def Obligations.ContVerifyStopsAtTheBadFrame : Prop :=
  ∀ (s : State) (cs : List Chunk) (p l : Nat), (∀ c ∈ cs, c.wf) → s.IssueClear → s.ibufLenN ≤ s.params.bufSize →
    p = (containerOf cs).length → p < s.ibufLenN → s.memRead 0 p = containerOf cs → l = (s.be32At p).toNat →
    (s.ibufLenN < p + 12 + l ∨ crc32 (s.memRead (p + 4) (4 + l)) ≠ s.be32At (p + 8 + l)) →
    ∃ t, exec .contVerify s = .next t
      ∧ t.Completed (if s.ibufLenN < p + 12 + l then .truncated else .crcMismatch) (toReg p)
      ∧ t.cstate = .failed ∧ t.clen = s.ibufLen ∧ t.cursorN = p ∧ t.chunkCount.toNat = cs.length
      ∧ (cs = [] → s.ResultSame t)
      ∧ ∀ c, cs.getLast? = some c →
          t.ResultIs (toReg (lastFrameOffset cs c)) (toReg c.data.length) c.packedType c.crc

/-- R195, R193: CONT_VERIFY of a buffer that CONT_BEGIN's body refuses ends as CONT_BEGIN does, with RANGE or BAD_SIGNATURE,
and with the result registers unchanged. -/
def Obligations.ContVerifyRefusesABadSignature : Prop :=
  ∀ s : State, s.IssueClear →
    (s.params.bufSize < s.ibufLenN → exec .contVerify s
      = .next { s with clen := 0, cursor := 0, chunkCount := 0, cstate := .failed, err := .range, errOff := 0,
                       pending := none, done := true })
    ∧ (s.ibufLenN ≤ s.params.bufSize → s.ibufLenN < 8 ∨ s.memRead 0 8 ≠ Config.pngSig → exec .contVerify s
      = .next { s with clen := s.ibufLen, cursor := 0, chunkCount := 0, cstate := .failed, err := .badSignature,
                       errOff := 0, pending := none, done := true })

/-- R196: SIG_EMIT with its 8 bytes inside OBUF; RANGE with no other effect when they are not. -/
def Obligations.SigEmitWritesTheSignature : Prop :=
  decode 0x00000033#32 = .command .sigEmit
  ∧ ∀ s : State, s.IssueClear → s.params.wf = true →
    (s.optrN + 8 ≤ s.params.bufSize →
      ∃ t, exec .sigEmit s = .next t ∧ t.Completed .noError 0 ∧ t.optrN = s.optrN + 8 ∧ t.cstate = s.cstate
        ∧ ∀ k, k < 8 → t.bufByte .obuf (s.optrN + k) = Config.pngSig.getD k 0)
    ∧ (s.params.bufSize < s.optrN + 8 →
      exec .sigEmit s = .next { s with err := .range, errOff := 0, pending := none, done := true })

/-! ### What a command's result depends on -/

/-- R129: the chunk and container commands neither read nor write CRC_ACC. -/
def Obligations.ChunkCommandsIgnoreCrcAcc : Prop :=
  ∀ (i : Instr) (s t : State) (c : Word),
    i = .chunkNew ∨ i = .chunkVerify ∨ i = .contBegin ∨ i = .contNext ∨ i = .contVerify ∨ i = .sigEmit →
    exec i s = .next t → t.crcAcc = s.crcAcc ∧ exec i { s with crcAcc := c } = .next { t with crcAcc := c }

/-- R72: the engine never reads OBUF: with another OBUF a command leaves the same state but for OBUF, and each OBUF byte it
leaves is the one that stood there, in both runs, or the same byte in both. -/
def Obligations.CommandsNeverReadObuf : Prop :=
  ∀ (i : Instr) (s t u : State) (m : Memory), exec i s = .next t → exec i { s with obuf := m } = .next u →
    { u with obuf := t.obuf } = t
    ∧ ∀ a, (t.bufByte .obuf a = s.bufByte .obuf a ∧ u.bufByte .obuf a = { s with obuf := m }.bufByte .obuf a)
        ∨ u.bufByte .obuf a = t.bufByte .obuf a

/-! ### The invariant -/

/-- R37, R39, R71, R72, R106, R192, R223, R226: every step, of either agent and of the reset input, keeps the invariant, and
leaves BUF_SIZE and BASE as they are. (The bounds of R37 and R39 are the spec's derivations; that the step is over a list of
events is the model's choice, log 1.) -/
def Obligations.StepKeepsTheInvariant : Prop :=
  ∀ s t : State, s.Inv → step s = .next t → t.Inv ∧ t.params = s.params

/-- R250: the invariant holds after hardware reset, for any legal parameters. -/
def Obligations.ResetMeetsTheInvariant : Prop :=
  State.reset.Inv ∧ ∀ p : Params, p.wf = true → (State.resetWith p).Inv

/-! ### The host port -/

/-- R23 to R44, R221: an idle 32-bit read of each register returns its value, ERR its code's number, and changes nothing else
(the list of responses is the model's choice, log 2). -/
def Obligations.IdleRegisterReads : Prop :=
  ∀ s : State, s.inReset = false → s.busy = false →
    ∀ r ∈ [(0x000, 0x504E4743#32), (0x004, 0x00010000#32), (0x008, if s.ie then 1#32 else 0#32), (0x00C, s.statusWord),
        (0x010, 0#32),
        (0x014, match s.err with
          | .noError => 0#32 | .invalidTag => 1#32 | .invalidEncoding => 2#32 | .badSignature => 3#32
          | .truncated => 4#32 | .lengthMismatch => 5#32 | .crcMismatch => 6#32 | .chunkNotFound => 7#32
          | .range => 8#32 | .sessionState => 9#32 | .badCommand => 10#32), (0x018, s.errOff), (0x01C, s.src), (0x020, s.len), (0x024, s.ibufLen),
        (0x028, s.optr), (0x02C, s.cursor), (0x030, s.clen), (0x034, s.chunkCount), (0x038, s.crcAcc),
        (0x03C, s.crcAcc ^^^ 0xFFFFFFFF#32), (0x040, 0#32), (0x044, s.tag), (0x048, taginfo s.tag), (0x04C, s.resOff),
        (0x050, s.resLen), (0x054, s.resType), (0x058, s.resCrc), (0x05C, taginfo s.resType),
        (0x060, BitVec.ofNat 32 s.params.bufSize)],
      s.hostAccess (.read .w32 (s.hostAddr r.1)) = { s with responses := r.2 :: s.responses }

/-- R28: the bits of STATUS. -/
def Obligations.StatusBits : Prop :=
  ∀ s : State,
    s.statusWord.getLsbD 0 = s.pending.isSome ∧ s.statusWord.getLsbD 1 = s.done
    ∧ (s.statusWord.getLsbD 2 = true ↔ s.err ≠ .noError) ∧ (s.statusWord.getLsbD 3 = true ↔ s.cstate = .ended)
    ∧ s.statusWord.getLsbD 4 = s.wrBusy ∧ s.statusWord.getLsbD 5 = s.busErr
    ∧ s.statusWord.getLsbD 6 = false ∧ s.statusWord.getLsbD 7 = false
    ∧ s.statusWord.extractLsb' 8 2
        = (match s.cstate with | .idle => 0#2 | .opened => 1#2 | .ended => 2#2 | .failed => 3#2)
    ∧ ∀ i, 10 ≤ i → s.statusWord.getLsbD i = false

/-- R29: a host write of v to STATUS, idle or BUSY. -/
def Obligations.StatusWriteClearsOnes : Prop :=
  ∀ (s : State) (v : Word), s.inReset = false →
    s.hostAccess (.write .w32 (s.hostAddr 0x00C) v)
      = { s with done := if v.getLsbD 1 then false else s.done,
                 wrBusy := if v.getLsbD 4 then false else s.wrBusy,
                 busErr := if v.getLsbD 5 then false else s.busErr }

/-- R33 to R36, R128, R152: an idle 32-bit write to each RW register stores all 32 bits. R27, R81: a write to CTRL without
SOFT_RESET stores IE, idle or BUSY. -/
def Obligations.RegisterWritesStore : Prop :=
  ∀ (s : State) (v : Word), s.inReset = false →
    (s.busy = false →
      s.hostAccess (.write .w32 (s.hostAddr 0x01C) v) = { s with src := v }
      ∧ s.hostAccess (.write .w32 (s.hostAddr 0x020) v) = { s with len := v }
      ∧ s.hostAccess (.write .w32 (s.hostAddr 0x024) v) = { s with ibufLen := v }
      ∧ s.hostAccess (.write .w32 (s.hostAddr 0x028) v) = { s with optr := v }
      ∧ s.hostAccess (.write .w32 (s.hostAddr 0x038) v) = { s with crcAcc := v }
      ∧ s.hostAccess (.write .w32 (s.hostAddr 0x044) v) = { s with tag := v })
    ∧ (v.getLsbD 1 = false → s.hostAccess (.write .w32 (s.hostAddr 0x008) v) = { s with ie := v.getLsbD 0 })

/-- R23, R24: an idle write to a read-only register or to a reserved offset is ignored, and a reserved offset reads 0. -/
def Obligations.ReadOnlyAndReservedOffsets : Prop :=
  ∀ (s : State) (v : Word) (o : Nat), s.inReset = false → s.busy = false → o % 4 = 0 → o < 0x1000 →
    (o ∈ [0x000, 0x004, 0x014, 0x018, 0x02C, 0x030, 0x034, 0x03C, 0x048, 0x04C, 0x050, 0x054, 0x058, 0x05C, 0x060]
        ∨ 0x064 ≤ o → s.hostAccess (.write .w32 (s.hostAddr o) v) = s)
    ∧ (0x064 ≤ o → s.hostAccess (.read .w32 (s.hostAddr o)) = { s with responses := 0 :: s.responses })

/-- R73, R74, R76: an access that is not legal reads 0 or writes nothing, and sets BUS_ERR, whether BUSY or not; an address
outside the framer's region does not reach it. (A 32-bit access that runs past the end of a buffer counts as not legal: the
model's choice, log 9. Outside the region: deduced, log 12.) -/
def Obligations.IllegalAccessesAreBusErrors : Prop :=
  ∀ (s : State) (w : Width) (v : Word), s.inReset = false → s.params.wf = true →
    (∀ o, o < 0x03000000 → ¬ legalAccess s.params w o →
      s.hostAccess (.read w (s.hostAddr o)) = { s with busErr := true, responses := 0 :: s.responses }
      ∧ s.hostAccess (.write w (s.hostAddr o) v) = { s with busErr := true })
    ∧ ∀ a, a < s.params.base ∨ s.params.base + 0x03000000 ≤ a →
      s.hostAccess (.read w a) = s ∧ s.hostAccess (.write w a v) = s

/-- R79: a legal read changes nothing but the data handed back and the model's count of free draws (logs 2, 4, 17). -/
def Obligations.LegalReadsHaveNoSideEffects : Prop :=
  ∀ (s : State) (w : Width) (o : Nat), s.params.wf = true → o < 0x03000000 → legalAccess s.params w o →
    ∃ (v : Word) (n : Nat),
      s.hostAccess (.read w (s.hostAddr o)) = { s with responses := v :: s.responses, draws := n }

/-- R75: legal idle accesses to a buffer window. A 32-bit access is little-endian, an 8-bit one moves one byte; every other
byte of both buffers is kept, and a write changes nothing but its buffer (the list of responses is the model's choice, log
2). -/
def Obligations.BufferAccessesMoveTheirBytes : Prop :=
  ∀ (s : State) (b : BufId) (base a : Nat) (v : Word), s.inReset = false → s.busy = false → s.params.wf = true →
    (b = .ibuf ∧ base = 0x01000000) ∨ (b = .obuf ∧ base = 0x02000000) →
    (a % 4 = 0 → a + 4 ≤ s.params.bufSize →
      s.hostAccess (.read .w32 (s.hostAddr (base + a)))
        = { s with responses := ((s.bufByte b a).setWidth 32 ||| (s.bufByte b (a + 1)).setWidth 32 <<< 8
            ||| (s.bufByte b (a + 2)).setWidth 32 <<< 16 ||| (s.bufByte b (a + 3)).setWidth 32 <<< 24) :: s.responses }
      ∧ ∀ t, t = s.hostAccess (.write .w32 (s.hostAddr (base + a)) v) →
        (∀ k, k < 4 → t.bufByte b (a + k) = v.extractLsb' (8 * k) 8)
        ∧ (∀ b' x, b' ≠ b ∨ x < a ∨ a + 4 ≤ x → t.bufByte b' x = s.bufByte b' x)
        ∧ { s with ibuf := t.ibuf, obuf := t.obuf } = t)
    ∧ (a < s.params.bufSize →
      s.hostAccess (.read .w8 (s.hostAddr (base + a)))
        = { s with responses := (s.bufByte b a).setWidth 32 :: s.responses }
      ∧ ∀ t, t = s.hostAccess (.write .w8 (s.hostAddr (base + a)) v) →
        t.bufByte b a = v.extractLsb' 0 8 ∧ (∀ b' x, b' ≠ b ∨ x ≠ a → t.bufByte b' x = s.bufByte b' x)
        ∧ { s with ibuf := t.ibuf, obuf := t.obuf } = t)

/-- R81: while BUSY = 1 a legal write to anything but STATUS and CTRL is ignored and sets WR_BUSY (a legal access as in log
9). -/
def Obligations.BusyWritesAreDropped : Prop :=
  ∀ (s : State) (w : Width) (o : Nat) (v : Word), s.inReset = false → s.busy = true → s.params.wf = true →
    o < 0x03000000 → legalAccess s.params w o → o ≠ 0x008 → o ≠ 0x00C →
    s.hostAccess (.write w (s.hostAddr o) v) = { s with wrBusy := true }

/-- R82: the reads that return their exact values while BUSY = 1. -/
def Obligations.BusyReadsThatAreExact : Prop :=
  ∀ (s : State) (w : Word), s.inReset = false → s.params.wf = true → s.pending = some w →
    (∀ r ∈ [(0x000, 0x504E4743#32), (0x004, 0x00010000#32), (0x008, if s.ie then 1#32 else 0#32), (0x00C, s.statusWord),
        (0x060, BitVec.ofNat 32 s.params.bufSize), (0x01C, s.src), (0x020, s.len), (0x024, s.ibufLen), (0x028, s.optr)],
      s.hostAccess (.read .w32 (s.hostAddr r.1)) = { s with responses := r.2 :: s.responses })
    ∧ (decode w ≠ .command .tagLoadText → decode w ≠ .command .tagLoadBytes →
      ∀ r ∈ [(0x044, s.tag), (0x048, taginfo s.tag)],
        s.hostAccess (.read .w32 (s.hostAddr r.1)) = { s with responses := r.2 :: s.responses })
    ∧ (decode w ≠ .command .crcInit → decode w ≠ .command .crcRange →
      ∀ r ∈ [(0x038, s.crcAcc), (0x03C, s.crcAcc ^^^ 0xFFFFFFFF#32)],
        s.hostAccess (.read .w32 (s.hostAddr r.1)) = { s with responses := r.2 :: s.responses })
    ∧ (∀ a, a < s.params.bufSize → s.hostAccess (.read .w8 (s.hostAddr (0x01000000 + a)))
        = { s with responses := (s.bufByte .ibuf a).setWidth 32 :: s.responses })
    ∧ ∀ a, a % 4 = 0 → a + 4 ≤ s.params.bufSize → s.hostAccess (.read .w32 (s.hostAddr (0x01000000 + a)))
        = { s with responses := ((s.bufByte .ibuf a).setWidth 32 ||| (s.bufByte .ibuf (a + 1)).setWidth 32 <<< 8
            ||| (s.bufByte .ibuf (a + 2)).setWidth 32 <<< 16 ||| (s.bufByte .ibuf (a + 3)).setWidth 32 <<< 24)
              :: s.responses }

/-- R45, R80, R81: while BUSY = 1 no host access but a soft reset changes what the command in flight reads or will write, so
it runs on the values at issue. -/
def Obligations.BusyFreezesTheCommand : Prop :=
  ∀ (s : State) (a : Access), s.inReset = false → s.busy = true →
    (∀ v, v.getLsbD 1 = true → a ≠ .write .w32 (s.hostAddr 0x008) v) →
    ∃ (ie done wrBusy busErr : Bool) (responses : List Word) (draws : Nat),
      s.hostAccess a = { s with ie := ie, done := done, wrBusy := wrBusy, busErr := busErr, responses := responses,
                                draws := draws }

/-! ### Reset and interrupt -/

/-- R250: while the reset input is asserted a write changes nothing and a read in the region gives one answer, of any value;
the release, like State.reset, leaves the reset values. (The list of responses and the count of free draws are the model's
choices, logs 2 and 4; that an access outside the region is not answered is deduced, log 12.) -/
def Obligations.HardwareResetValues : Prop :=
  ∀ s : State, s.inReset = true →
    (∀ w a v, s.hostAccess (.write w a v) = s)
    ∧ (∀ w o, o < 0x03000000 → ∃ (v : Word) (n : Nat),
        s.hostAccess (.read w (s.hostAddr o)) = { s with responses := v :: s.responses, draws := n })
    ∧ (∀ w a, a < s.params.base ∨ s.params.base + 0x03000000 ≤ a → s.hostAccess (.read w a) = s)
    ∧ ∀ t, t = s.releaseReset ∨ t = State.reset →
      t.inReset = false ∧ t.ie = false ∧ t.statusWord = 0 ∧ t.pending = none ∧ t.err = .noError ∧ t.errOff = 0
      ∧ t.src = 0 ∧ t.len = 0 ∧ t.ibufLen = 0 ∧ t.optr = 0 ∧ t.cursor = 0 ∧ t.clen = 0 ∧ t.chunkCount = 0
      ∧ t.crcAcc = 0xFFFFFFFF#32 ∧ t.crcOut = 0 ∧ t.tag = 0 ∧ taginfo t.tag = 0x57 ∧ t.resOff = 0 ∧ t.resLen = 0
      ∧ t.resType = 0 ∧ t.resCrc = 0 ∧ taginfo t.resType = 0x57 ∧ t.irq = false

/-- R252: a write to CTRL with bit 1 set, idle or BUSY: every register at its reset value, the pending command abandoned,
IBUF kept, and each OBUF byte kept but for those of an abandoned CHUNK_NEW or SIG_EMIT that would have written it, which hold
the old byte or the new one. -/
def Obligations.SoftReset : Prop :=
  ∀ (s t : State) (v : Word), s.inReset = false → v.getLsbD 1 = true →
    t = s.hostAccess (.write .w32 (s.hostAddr 0x008) v) →
    t.ie = false ∧ t.statusWord = 0 ∧ t.pending = none ∧ t.err = .noError ∧ t.errOff = 0
    ∧ t.src = 0 ∧ t.len = 0 ∧ t.ibufLen = 0 ∧ t.optr = 0 ∧ t.cstate = .idle
    ∧ t.cursor = 0 ∧ t.clen = 0 ∧ t.chunkCount = 0 ∧ t.crcAcc = 0xFFFFFFFF#32 ∧ t.tag = 0
    ∧ t.ResultIs 0 0 0 0
    ∧ (∀ a, t.bufByte .ibuf a = s.bufByte .ibuf a)
    ∧ (∀ i u, s.inFlight = some (.command i) → exec i s = .next u →
        ∀ a, t.bufByte .obuf a = s.bufByte .obuf a ∨ t.bufByte .obuf a = u.bufByte .obuf a)
    ∧ ((∀ i, s.inFlight ≠ some (.command i)) → ∀ a, t.bufByte .obuf a = s.bufByte .obuf a)

/-- R229, R230: IRQ is CTRL.IE AND STATUS.DONE, whatever the sticky bits and ERR are, so
that every completion, with an error or without, raises it when IE = 1; it drops at a STATUS write with bit 1
set, at the next accepted command, and at either reset. -/
def Obligations.IrqIsEnabledCompletion : Prop :=
  ∀ (s : State) (v : Word),
    (s.irq = true ↔ s.ie = true ∧ s.done = true)
    ∧ (∀ i t, exec i s = .next t → t.irq = s.ie)
    ∧ (∀ a b e, { s with wrBusy := a, busErr := b, err := e }.irq = s.irq)
    ∧ (s.inReset = false →
      (v.getLsbD 1 = true → (s.hostAccess (.write .w32 (s.hostAddr 0x00C) v)).irq = false)
      ∧ (s.busy = false → (s.hostAccess (.write .w32 (s.hostAddr 0x010) v)).irq = false)
      ∧ (v.getLsbD 1 = true → (s.hostAccess (.write .w32 (s.hostAddr 0x008) v)).irq = false))
    ∧ (s.inReset = true → s.releaseReset.irq = false)
end

