-- ==== Sys2Proof/Laws/State.lean ====
section
/-! SUPPORT. One lemma per field per named update of State, true by rfl, so that no proof unfolds a record update. -/

namespace Sys2Proof.Machine

@[simp] theorem State.complete_ie (s : State) :
    s.complete.ie = s.ie := rfl
@[simp] theorem State.complete_pending (s : State) :
    s.complete.pending = none := rfl
@[simp] theorem State.complete_done (s : State) :
    s.complete.done = true := rfl
@[simp] theorem State.complete_wrBusy (s : State) :
    s.complete.wrBusy = s.wrBusy := rfl
@[simp] theorem State.complete_busErr (s : State) :
    s.complete.busErr = s.busErr := rfl
@[simp] theorem State.complete_cstate (s : State) :
    s.complete.cstate = s.cstate := rfl
@[simp] theorem State.complete_err (s : State) :
    s.complete.err = s.err := rfl
@[simp] theorem State.complete_errOff (s : State) :
    s.complete.errOff = s.errOff := rfl
@[simp] theorem State.complete_src (s : State) :
    s.complete.src = s.src := rfl
@[simp] theorem State.complete_len (s : State) :
    s.complete.len = s.len := rfl
@[simp] theorem State.complete_ibufLen (s : State) :
    s.complete.ibufLen = s.ibufLen := rfl
@[simp] theorem State.complete_optr (s : State) :
    s.complete.optr = s.optr := rfl
@[simp] theorem State.complete_cursor (s : State) :
    s.complete.cursor = s.cursor := rfl
@[simp] theorem State.complete_clen (s : State) :
    s.complete.clen = s.clen := rfl
@[simp] theorem State.complete_chunkCount (s : State) :
    s.complete.chunkCount = s.chunkCount := rfl
@[simp] theorem State.complete_crcAcc (s : State) :
    s.complete.crcAcc = s.crcAcc := rfl
@[simp] theorem State.complete_tag (s : State) :
    s.complete.tag = s.tag := rfl
@[simp] theorem State.complete_resOff (s : State) :
    s.complete.resOff = s.resOff := rfl
@[simp] theorem State.complete_resLen (s : State) :
    s.complete.resLen = s.resLen := rfl
@[simp] theorem State.complete_resType (s : State) :
    s.complete.resType = s.resType := rfl
@[simp] theorem State.complete_resCrc (s : State) :
    s.complete.resCrc = s.resCrc := rfl
@[simp] theorem State.complete_ibuf (s : State) :
    s.complete.ibuf = s.ibuf := rfl
@[simp] theorem State.complete_obuf (s : State) :
    s.complete.obuf = s.obuf := rfl
@[simp] theorem State.complete_inReset (s : State) :
    s.complete.inReset = s.inReset := rfl
@[simp] theorem State.complete_params (s : State) :
    s.complete.params = s.params := rfl
@[simp] theorem State.complete_events (s : State) :
    s.complete.events = s.events := rfl
@[simp] theorem State.complete_responses (s : State) :
    s.complete.responses = s.responses := rfl
@[simp] theorem State.complete_draws (s : State) :
    s.complete.draws = s.draws := rfl
@[simp] theorem State.complete_epoch (s : State) :
    s.complete.epoch = s.epoch := rfl

@[simp] theorem State.raiseError_ie (s : State) (code : ErrCode) (off : Word) :
    (s.raiseError code off).ie = s.ie := rfl
@[simp] theorem State.raiseError_pending (s : State) (code : ErrCode) (off : Word) :
    (s.raiseError code off).pending = none := rfl
@[simp] theorem State.raiseError_done (s : State) (code : ErrCode) (off : Word) :
    (s.raiseError code off).done = true := rfl
@[simp] theorem State.raiseError_wrBusy (s : State) (code : ErrCode) (off : Word) :
    (s.raiseError code off).wrBusy = s.wrBusy := rfl
@[simp] theorem State.raiseError_busErr (s : State) (code : ErrCode) (off : Word) :
    (s.raiseError code off).busErr = s.busErr := rfl
@[simp] theorem State.raiseError_cstate (s : State) (code : ErrCode) (off : Word) :
    (s.raiseError code off).cstate = s.cstate := rfl
@[simp] theorem State.raiseError_err (s : State) (code : ErrCode) (off : Word) :
    (s.raiseError code off).err = code := rfl
@[simp] theorem State.raiseError_errOff (s : State) (code : ErrCode) (off : Word) :
    (s.raiseError code off).errOff = off := rfl
@[simp] theorem State.raiseError_src (s : State) (code : ErrCode) (off : Word) :
    (s.raiseError code off).src = s.src := rfl
@[simp] theorem State.raiseError_len (s : State) (code : ErrCode) (off : Word) :
    (s.raiseError code off).len = s.len := rfl
@[simp] theorem State.raiseError_ibufLen (s : State) (code : ErrCode) (off : Word) :
    (s.raiseError code off).ibufLen = s.ibufLen := rfl
@[simp] theorem State.raiseError_optr (s : State) (code : ErrCode) (off : Word) :
    (s.raiseError code off).optr = s.optr := rfl
@[simp] theorem State.raiseError_cursor (s : State) (code : ErrCode) (off : Word) :
    (s.raiseError code off).cursor = s.cursor := rfl
@[simp] theorem State.raiseError_clen (s : State) (code : ErrCode) (off : Word) :
    (s.raiseError code off).clen = s.clen := rfl
@[simp] theorem State.raiseError_chunkCount (s : State) (code : ErrCode) (off : Word) :
    (s.raiseError code off).chunkCount = s.chunkCount := rfl
@[simp] theorem State.raiseError_crcAcc (s : State) (code : ErrCode) (off : Word) :
    (s.raiseError code off).crcAcc = s.crcAcc := rfl
@[simp] theorem State.raiseError_tag (s : State) (code : ErrCode) (off : Word) :
    (s.raiseError code off).tag = s.tag := rfl
@[simp] theorem State.raiseError_resOff (s : State) (code : ErrCode) (off : Word) :
    (s.raiseError code off).resOff = s.resOff := rfl
@[simp] theorem State.raiseError_resLen (s : State) (code : ErrCode) (off : Word) :
    (s.raiseError code off).resLen = s.resLen := rfl
@[simp] theorem State.raiseError_resType (s : State) (code : ErrCode) (off : Word) :
    (s.raiseError code off).resType = s.resType := rfl
@[simp] theorem State.raiseError_resCrc (s : State) (code : ErrCode) (off : Word) :
    (s.raiseError code off).resCrc = s.resCrc := rfl
@[simp] theorem State.raiseError_ibuf (s : State) (code : ErrCode) (off : Word) :
    (s.raiseError code off).ibuf = s.ibuf := rfl
@[simp] theorem State.raiseError_obuf (s : State) (code : ErrCode) (off : Word) :
    (s.raiseError code off).obuf = s.obuf := rfl
@[simp] theorem State.raiseError_inReset (s : State) (code : ErrCode) (off : Word) :
    (s.raiseError code off).inReset = s.inReset := rfl
@[simp] theorem State.raiseError_params (s : State) (code : ErrCode) (off : Word) :
    (s.raiseError code off).params = s.params := rfl
@[simp] theorem State.raiseError_events (s : State) (code : ErrCode) (off : Word) :
    (s.raiseError code off).events = s.events := rfl
@[simp] theorem State.raiseError_responses (s : State) (code : ErrCode) (off : Word) :
    (s.raiseError code off).responses = s.responses := rfl
@[simp] theorem State.raiseError_draws (s : State) (code : ErrCode) (off : Word) :
    (s.raiseError code off).draws = s.draws := rfl
@[simp] theorem State.raiseError_epoch (s : State) (code : ErrCode) (off : Word) :
    (s.raiseError code off).epoch = s.epoch := rfl

@[simp] theorem State.issue_ie (s : State) (w : Word) :
    (s.issue w).ie = s.ie := rfl
@[simp] theorem State.issue_pending (s : State) (w : Word) :
    (s.issue w).pending = some w := rfl
@[simp] theorem State.issue_done (s : State) (w : Word) :
    (s.issue w).done = false := rfl
@[simp] theorem State.issue_wrBusy (s : State) (w : Word) :
    (s.issue w).wrBusy = s.wrBusy := rfl
@[simp] theorem State.issue_busErr (s : State) (w : Word) :
    (s.issue w).busErr = s.busErr := rfl
@[simp] theorem State.issue_cstate (s : State) (w : Word) :
    (s.issue w).cstate = s.cstate := rfl
@[simp] theorem State.issue_err (s : State) (w : Word) :
    (s.issue w).err = .noError := rfl
@[simp] theorem State.issue_errOff (s : State) (w : Word) :
    (s.issue w).errOff = 0 := rfl
@[simp] theorem State.issue_src (s : State) (w : Word) :
    (s.issue w).src = s.src := rfl
@[simp] theorem State.issue_len (s : State) (w : Word) :
    (s.issue w).len = s.len := rfl
@[simp] theorem State.issue_ibufLen (s : State) (w : Word) :
    (s.issue w).ibufLen = s.ibufLen := rfl
@[simp] theorem State.issue_optr (s : State) (w : Word) :
    (s.issue w).optr = s.optr := rfl
@[simp] theorem State.issue_cursor (s : State) (w : Word) :
    (s.issue w).cursor = s.cursor := rfl
@[simp] theorem State.issue_clen (s : State) (w : Word) :
    (s.issue w).clen = s.clen := rfl
@[simp] theorem State.issue_chunkCount (s : State) (w : Word) :
    (s.issue w).chunkCount = s.chunkCount := rfl
@[simp] theorem State.issue_crcAcc (s : State) (w : Word) :
    (s.issue w).crcAcc = s.crcAcc := rfl
@[simp] theorem State.issue_tag (s : State) (w : Word) :
    (s.issue w).tag = s.tag := rfl
@[simp] theorem State.issue_resOff (s : State) (w : Word) :
    (s.issue w).resOff = s.resOff := rfl
@[simp] theorem State.issue_resLen (s : State) (w : Word) :
    (s.issue w).resLen = s.resLen := rfl
@[simp] theorem State.issue_resType (s : State) (w : Word) :
    (s.issue w).resType = s.resType := rfl
@[simp] theorem State.issue_resCrc (s : State) (w : Word) :
    (s.issue w).resCrc = s.resCrc := rfl
@[simp] theorem State.issue_ibuf (s : State) (w : Word) :
    (s.issue w).ibuf = s.ibuf := rfl
@[simp] theorem State.issue_obuf (s : State) (w : Word) :
    (s.issue w).obuf = s.obuf := rfl
@[simp] theorem State.issue_inReset (s : State) (w : Word) :
    (s.issue w).inReset = s.inReset := rfl
@[simp] theorem State.issue_params (s : State) (w : Word) :
    (s.issue w).params = s.params := rfl
@[simp] theorem State.issue_events (s : State) (w : Word) :
    (s.issue w).events = s.events := rfl
@[simp] theorem State.issue_responses (s : State) (w : Word) :
    (s.issue w).responses = s.responses := rfl
@[simp] theorem State.issue_draws (s : State) (w : Word) :
    (s.issue w).draws = s.draws := rfl
@[simp] theorem State.issue_epoch (s : State) (w : Word) :
    (s.issue w).epoch = s.epoch := rfl

@[simp] theorem State.setResult_ie (s : State) (off len type crc : Word) :
    (s.setResult off len type crc).ie = s.ie := rfl
@[simp] theorem State.setResult_pending (s : State) (off len type crc : Word) :
    (s.setResult off len type crc).pending = s.pending := rfl
@[simp] theorem State.setResult_done (s : State) (off len type crc : Word) :
    (s.setResult off len type crc).done = s.done := rfl
@[simp] theorem State.setResult_wrBusy (s : State) (off len type crc : Word) :
    (s.setResult off len type crc).wrBusy = s.wrBusy := rfl
@[simp] theorem State.setResult_busErr (s : State) (off len type crc : Word) :
    (s.setResult off len type crc).busErr = s.busErr := rfl
@[simp] theorem State.setResult_cstate (s : State) (off len type crc : Word) :
    (s.setResult off len type crc).cstate = s.cstate := rfl
@[simp] theorem State.setResult_err (s : State) (off len type crc : Word) :
    (s.setResult off len type crc).err = s.err := rfl
@[simp] theorem State.setResult_errOff (s : State) (off len type crc : Word) :
    (s.setResult off len type crc).errOff = s.errOff := rfl
@[simp] theorem State.setResult_src (s : State) (off len type crc : Word) :
    (s.setResult off len type crc).src = s.src := rfl
@[simp] theorem State.setResult_len (s : State) (off len type crc : Word) :
    (s.setResult off len type crc).len = s.len := rfl
@[simp] theorem State.setResult_ibufLen (s : State) (off len type crc : Word) :
    (s.setResult off len type crc).ibufLen = s.ibufLen := rfl
@[simp] theorem State.setResult_optr (s : State) (off len type crc : Word) :
    (s.setResult off len type crc).optr = s.optr := rfl
@[simp] theorem State.setResult_cursor (s : State) (off len type crc : Word) :
    (s.setResult off len type crc).cursor = s.cursor := rfl
@[simp] theorem State.setResult_clen (s : State) (off len type crc : Word) :
    (s.setResult off len type crc).clen = s.clen := rfl
@[simp] theorem State.setResult_chunkCount (s : State) (off len type crc : Word) :
    (s.setResult off len type crc).chunkCount = s.chunkCount := rfl
@[simp] theorem State.setResult_crcAcc (s : State) (off len type crc : Word) :
    (s.setResult off len type crc).crcAcc = s.crcAcc := rfl
@[simp] theorem State.setResult_tag (s : State) (off len type crc : Word) :
    (s.setResult off len type crc).tag = s.tag := rfl
@[simp] theorem State.setResult_resOff (s : State) (off len type crc : Word) :
    (s.setResult off len type crc).resOff = off := rfl
@[simp] theorem State.setResult_resLen (s : State) (off len type crc : Word) :
    (s.setResult off len type crc).resLen = len := rfl
@[simp] theorem State.setResult_resType (s : State) (off len type crc : Word) :
    (s.setResult off len type crc).resType = type := rfl
@[simp] theorem State.setResult_resCrc (s : State) (off len type crc : Word) :
    (s.setResult off len type crc).resCrc = crc := rfl
@[simp] theorem State.setResult_ibuf (s : State) (off len type crc : Word) :
    (s.setResult off len type crc).ibuf = s.ibuf := rfl
@[simp] theorem State.setResult_obuf (s : State) (off len type crc : Word) :
    (s.setResult off len type crc).obuf = s.obuf := rfl
@[simp] theorem State.setResult_inReset (s : State) (off len type crc : Word) :
    (s.setResult off len type crc).inReset = s.inReset := rfl
@[simp] theorem State.setResult_params (s : State) (off len type crc : Word) :
    (s.setResult off len type crc).params = s.params := rfl
@[simp] theorem State.setResult_events (s : State) (off len type crc : Word) :
    (s.setResult off len type crc).events = s.events := rfl
@[simp] theorem State.setResult_responses (s : State) (off len type crc : Word) :
    (s.setResult off len type crc).responses = s.responses := rfl
@[simp] theorem State.setResult_draws (s : State) (off len type crc : Word) :
    (s.setResult off len type crc).draws = s.draws := rfl
@[simp] theorem State.setResult_epoch (s : State) (off len type crc : Word) :
    (s.setResult off len type crc).epoch = s.epoch := rfl

@[simp] theorem State.memWrite_ie (s : State) (a : Nat) (bs : List Byte) :
    (s.memWrite a bs).ie = s.ie := rfl
@[simp] theorem State.memWrite_pending (s : State) (a : Nat) (bs : List Byte) :
    (s.memWrite a bs).pending = s.pending := rfl
@[simp] theorem State.memWrite_done (s : State) (a : Nat) (bs : List Byte) :
    (s.memWrite a bs).done = s.done := rfl
@[simp] theorem State.memWrite_wrBusy (s : State) (a : Nat) (bs : List Byte) :
    (s.memWrite a bs).wrBusy = s.wrBusy := rfl
@[simp] theorem State.memWrite_busErr (s : State) (a : Nat) (bs : List Byte) :
    (s.memWrite a bs).busErr = s.busErr := rfl
@[simp] theorem State.memWrite_cstate (s : State) (a : Nat) (bs : List Byte) :
    (s.memWrite a bs).cstate = s.cstate := rfl
@[simp] theorem State.memWrite_err (s : State) (a : Nat) (bs : List Byte) :
    (s.memWrite a bs).err = s.err := rfl
@[simp] theorem State.memWrite_errOff (s : State) (a : Nat) (bs : List Byte) :
    (s.memWrite a bs).errOff = s.errOff := rfl
@[simp] theorem State.memWrite_src (s : State) (a : Nat) (bs : List Byte) :
    (s.memWrite a bs).src = s.src := rfl
@[simp] theorem State.memWrite_len (s : State) (a : Nat) (bs : List Byte) :
    (s.memWrite a bs).len = s.len := rfl
@[simp] theorem State.memWrite_ibufLen (s : State) (a : Nat) (bs : List Byte) :
    (s.memWrite a bs).ibufLen = s.ibufLen := rfl
@[simp] theorem State.memWrite_optr (s : State) (a : Nat) (bs : List Byte) :
    (s.memWrite a bs).optr = s.optr := rfl
@[simp] theorem State.memWrite_cursor (s : State) (a : Nat) (bs : List Byte) :
    (s.memWrite a bs).cursor = s.cursor := rfl
@[simp] theorem State.memWrite_clen (s : State) (a : Nat) (bs : List Byte) :
    (s.memWrite a bs).clen = s.clen := rfl
@[simp] theorem State.memWrite_chunkCount (s : State) (a : Nat) (bs : List Byte) :
    (s.memWrite a bs).chunkCount = s.chunkCount := rfl
@[simp] theorem State.memWrite_crcAcc (s : State) (a : Nat) (bs : List Byte) :
    (s.memWrite a bs).crcAcc = s.crcAcc := rfl
@[simp] theorem State.memWrite_tag (s : State) (a : Nat) (bs : List Byte) :
    (s.memWrite a bs).tag = s.tag := rfl
@[simp] theorem State.memWrite_resOff (s : State) (a : Nat) (bs : List Byte) :
    (s.memWrite a bs).resOff = s.resOff := rfl
@[simp] theorem State.memWrite_resLen (s : State) (a : Nat) (bs : List Byte) :
    (s.memWrite a bs).resLen = s.resLen := rfl
@[simp] theorem State.memWrite_resType (s : State) (a : Nat) (bs : List Byte) :
    (s.memWrite a bs).resType = s.resType := rfl
@[simp] theorem State.memWrite_resCrc (s : State) (a : Nat) (bs : List Byte) :
    (s.memWrite a bs).resCrc = s.resCrc := rfl
@[simp] theorem State.memWrite_ibuf (s : State) (a : Nat) (bs : List Byte) :
    (s.memWrite a bs).ibuf = s.ibuf := rfl
@[simp] theorem State.memWrite_obuf (s : State) (a : Nat) (bs : List Byte) :
    (s.memWrite a bs).obuf = s.obuf.storeBytes a bs := rfl
@[simp] theorem State.memWrite_inReset (s : State) (a : Nat) (bs : List Byte) :
    (s.memWrite a bs).inReset = s.inReset := rfl
@[simp] theorem State.memWrite_params (s : State) (a : Nat) (bs : List Byte) :
    (s.memWrite a bs).params = s.params := rfl
@[simp] theorem State.memWrite_events (s : State) (a : Nat) (bs : List Byte) :
    (s.memWrite a bs).events = s.events := rfl
@[simp] theorem State.memWrite_responses (s : State) (a : Nat) (bs : List Byte) :
    (s.memWrite a bs).responses = s.responses := rfl
@[simp] theorem State.memWrite_draws (s : State) (a : Nat) (bs : List Byte) :
    (s.memWrite a bs).draws = s.draws := rfl
@[simp] theorem State.memWrite_epoch (s : State) (a : Nat) (bs : List Byte) :
    (s.memWrite a bs).epoch = s.epoch := rfl

@[simp] theorem State.respond_ie (s : State) (v : Word) :
    (s.respond v).ie = s.ie := rfl
@[simp] theorem State.respond_pending (s : State) (v : Word) :
    (s.respond v).pending = s.pending := rfl
@[simp] theorem State.respond_done (s : State) (v : Word) :
    (s.respond v).done = s.done := rfl
@[simp] theorem State.respond_wrBusy (s : State) (v : Word) :
    (s.respond v).wrBusy = s.wrBusy := rfl
@[simp] theorem State.respond_busErr (s : State) (v : Word) :
    (s.respond v).busErr = s.busErr := rfl
@[simp] theorem State.respond_cstate (s : State) (v : Word) :
    (s.respond v).cstate = s.cstate := rfl
@[simp] theorem State.respond_err (s : State) (v : Word) :
    (s.respond v).err = s.err := rfl
@[simp] theorem State.respond_errOff (s : State) (v : Word) :
    (s.respond v).errOff = s.errOff := rfl
@[simp] theorem State.respond_src (s : State) (v : Word) :
    (s.respond v).src = s.src := rfl
@[simp] theorem State.respond_len (s : State) (v : Word) :
    (s.respond v).len = s.len := rfl
@[simp] theorem State.respond_ibufLen (s : State) (v : Word) :
    (s.respond v).ibufLen = s.ibufLen := rfl
@[simp] theorem State.respond_optr (s : State) (v : Word) :
    (s.respond v).optr = s.optr := rfl
@[simp] theorem State.respond_cursor (s : State) (v : Word) :
    (s.respond v).cursor = s.cursor := rfl
@[simp] theorem State.respond_clen (s : State) (v : Word) :
    (s.respond v).clen = s.clen := rfl
@[simp] theorem State.respond_chunkCount (s : State) (v : Word) :
    (s.respond v).chunkCount = s.chunkCount := rfl
@[simp] theorem State.respond_crcAcc (s : State) (v : Word) :
    (s.respond v).crcAcc = s.crcAcc := rfl
@[simp] theorem State.respond_tag (s : State) (v : Word) :
    (s.respond v).tag = s.tag := rfl
@[simp] theorem State.respond_resOff (s : State) (v : Word) :
    (s.respond v).resOff = s.resOff := rfl
@[simp] theorem State.respond_resLen (s : State) (v : Word) :
    (s.respond v).resLen = s.resLen := rfl
@[simp] theorem State.respond_resType (s : State) (v : Word) :
    (s.respond v).resType = s.resType := rfl
@[simp] theorem State.respond_resCrc (s : State) (v : Word) :
    (s.respond v).resCrc = s.resCrc := rfl
@[simp] theorem State.respond_ibuf (s : State) (v : Word) :
    (s.respond v).ibuf = s.ibuf := rfl
@[simp] theorem State.respond_obuf (s : State) (v : Word) :
    (s.respond v).obuf = s.obuf := rfl
@[simp] theorem State.respond_inReset (s : State) (v : Word) :
    (s.respond v).inReset = s.inReset := rfl
@[simp] theorem State.respond_params (s : State) (v : Word) :
    (s.respond v).params = s.params := rfl
@[simp] theorem State.respond_events (s : State) (v : Word) :
    (s.respond v).events = s.events := rfl
@[simp] theorem State.respond_responses (s : State) (v : Word) :
    (s.respond v).responses = v :: s.responses := rfl
@[simp] theorem State.respond_draws (s : State) (v : Word) :
    (s.respond v).draws = s.draws := rfl
@[simp] theorem State.respond_epoch (s : State) (v : Word) :
    (s.respond v).epoch = s.epoch := rfl

@[simp] theorem State.respondFree_ie (s : State) :
    s.respondFree.ie = s.ie := rfl
@[simp] theorem State.respondFree_pending (s : State) :
    s.respondFree.pending = s.pending := rfl
@[simp] theorem State.respondFree_done (s : State) :
    s.respondFree.done = s.done := rfl
@[simp] theorem State.respondFree_wrBusy (s : State) :
    s.respondFree.wrBusy = s.wrBusy := rfl
@[simp] theorem State.respondFree_busErr (s : State) :
    s.respondFree.busErr = s.busErr := rfl
@[simp] theorem State.respondFree_cstate (s : State) :
    s.respondFree.cstate = s.cstate := rfl
@[simp] theorem State.respondFree_err (s : State) :
    s.respondFree.err = s.err := rfl
@[simp] theorem State.respondFree_errOff (s : State) :
    s.respondFree.errOff = s.errOff := rfl
@[simp] theorem State.respondFree_src (s : State) :
    s.respondFree.src = s.src := rfl
@[simp] theorem State.respondFree_len (s : State) :
    s.respondFree.len = s.len := rfl
@[simp] theorem State.respondFree_ibufLen (s : State) :
    s.respondFree.ibufLen = s.ibufLen := rfl
@[simp] theorem State.respondFree_optr (s : State) :
    s.respondFree.optr = s.optr := rfl
@[simp] theorem State.respondFree_cursor (s : State) :
    s.respondFree.cursor = s.cursor := rfl
@[simp] theorem State.respondFree_clen (s : State) :
    s.respondFree.clen = s.clen := rfl
@[simp] theorem State.respondFree_chunkCount (s : State) :
    s.respondFree.chunkCount = s.chunkCount := rfl
@[simp] theorem State.respondFree_crcAcc (s : State) :
    s.respondFree.crcAcc = s.crcAcc := rfl
@[simp] theorem State.respondFree_tag (s : State) :
    s.respondFree.tag = s.tag := rfl
@[simp] theorem State.respondFree_resOff (s : State) :
    s.respondFree.resOff = s.resOff := rfl
@[simp] theorem State.respondFree_resLen (s : State) :
    s.respondFree.resLen = s.resLen := rfl
@[simp] theorem State.respondFree_resType (s : State) :
    s.respondFree.resType = s.resType := rfl
@[simp] theorem State.respondFree_resCrc (s : State) :
    s.respondFree.resCrc = s.resCrc := rfl
@[simp] theorem State.respondFree_ibuf (s : State) :
    s.respondFree.ibuf = s.ibuf := rfl
@[simp] theorem State.respondFree_obuf (s : State) :
    s.respondFree.obuf = s.obuf := rfl
@[simp] theorem State.respondFree_inReset (s : State) :
    s.respondFree.inReset = s.inReset := rfl
@[simp] theorem State.respondFree_params (s : State) :
    s.respondFree.params = s.params := rfl
@[simp] theorem State.respondFree_events (s : State) :
    s.respondFree.events = s.events := rfl
@[simp] theorem State.respondFree_responses (s : State) :
    s.respondFree.responses = Config.freeWord s.draws :: s.responses := rfl
@[simp] theorem State.respondFree_draws (s : State) :
    s.respondFree.draws = s.draws + 1 := rfl
@[simp] theorem State.respondFree_epoch (s : State) :
    s.respondFree.epoch = s.epoch := rfl

@[simp] theorem State.respondFreeByte_ie (s : State) :
    s.respondFreeByte.ie = s.ie := rfl
@[simp] theorem State.respondFreeByte_pending (s : State) :
    s.respondFreeByte.pending = s.pending := rfl
@[simp] theorem State.respondFreeByte_done (s : State) :
    s.respondFreeByte.done = s.done := rfl
@[simp] theorem State.respondFreeByte_wrBusy (s : State) :
    s.respondFreeByte.wrBusy = s.wrBusy := rfl
@[simp] theorem State.respondFreeByte_busErr (s : State) :
    s.respondFreeByte.busErr = s.busErr := rfl
@[simp] theorem State.respondFreeByte_cstate (s : State) :
    s.respondFreeByte.cstate = s.cstate := rfl
@[simp] theorem State.respondFreeByte_err (s : State) :
    s.respondFreeByte.err = s.err := rfl
@[simp] theorem State.respondFreeByte_errOff (s : State) :
    s.respondFreeByte.errOff = s.errOff := rfl
@[simp] theorem State.respondFreeByte_src (s : State) :
    s.respondFreeByte.src = s.src := rfl
@[simp] theorem State.respondFreeByte_len (s : State) :
    s.respondFreeByte.len = s.len := rfl
@[simp] theorem State.respondFreeByte_ibufLen (s : State) :
    s.respondFreeByte.ibufLen = s.ibufLen := rfl
@[simp] theorem State.respondFreeByte_optr (s : State) :
    s.respondFreeByte.optr = s.optr := rfl
@[simp] theorem State.respondFreeByte_cursor (s : State) :
    s.respondFreeByte.cursor = s.cursor := rfl
@[simp] theorem State.respondFreeByte_clen (s : State) :
    s.respondFreeByte.clen = s.clen := rfl
@[simp] theorem State.respondFreeByte_chunkCount (s : State) :
    s.respondFreeByte.chunkCount = s.chunkCount := rfl
@[simp] theorem State.respondFreeByte_crcAcc (s : State) :
    s.respondFreeByte.crcAcc = s.crcAcc := rfl
@[simp] theorem State.respondFreeByte_tag (s : State) :
    s.respondFreeByte.tag = s.tag := rfl
@[simp] theorem State.respondFreeByte_resOff (s : State) :
    s.respondFreeByte.resOff = s.resOff := rfl
@[simp] theorem State.respondFreeByte_resLen (s : State) :
    s.respondFreeByte.resLen = s.resLen := rfl
@[simp] theorem State.respondFreeByte_resType (s : State) :
    s.respondFreeByte.resType = s.resType := rfl
@[simp] theorem State.respondFreeByte_resCrc (s : State) :
    s.respondFreeByte.resCrc = s.resCrc := rfl
@[simp] theorem State.respondFreeByte_ibuf (s : State) :
    s.respondFreeByte.ibuf = s.ibuf := rfl
@[simp] theorem State.respondFreeByte_obuf (s : State) :
    s.respondFreeByte.obuf = s.obuf := rfl
@[simp] theorem State.respondFreeByte_inReset (s : State) :
    s.respondFreeByte.inReset = s.inReset := rfl
@[simp] theorem State.respondFreeByte_params (s : State) :
    s.respondFreeByte.params = s.params := rfl
@[simp] theorem State.respondFreeByte_events (s : State) :
    s.respondFreeByte.events = s.events := rfl
@[simp] theorem State.respondFreeByte_responses (s : State) :
    s.respondFreeByte.responses = ((Config.freeWord s.draws).setWidth 8).setWidth 32 :: s.responses := rfl
@[simp] theorem State.respondFreeByte_draws (s : State) :
    s.respondFreeByte.draws = s.draws + 1 := rfl
@[simp] theorem State.respondFreeByte_epoch (s : State) :
    s.respondFreeByte.epoch = s.epoch := rfl

@[simp] theorem State.busError_ie (s : State) :
    s.busError.ie = s.ie := rfl
@[simp] theorem State.busError_pending (s : State) :
    s.busError.pending = s.pending := rfl
@[simp] theorem State.busError_done (s : State) :
    s.busError.done = s.done := rfl
@[simp] theorem State.busError_wrBusy (s : State) :
    s.busError.wrBusy = s.wrBusy := rfl
@[simp] theorem State.busError_busErr (s : State) :
    s.busError.busErr = true := rfl
@[simp] theorem State.busError_cstate (s : State) :
    s.busError.cstate = s.cstate := rfl
@[simp] theorem State.busError_err (s : State) :
    s.busError.err = s.err := rfl
@[simp] theorem State.busError_errOff (s : State) :
    s.busError.errOff = s.errOff := rfl
@[simp] theorem State.busError_src (s : State) :
    s.busError.src = s.src := rfl
@[simp] theorem State.busError_len (s : State) :
    s.busError.len = s.len := rfl
@[simp] theorem State.busError_ibufLen (s : State) :
    s.busError.ibufLen = s.ibufLen := rfl
@[simp] theorem State.busError_optr (s : State) :
    s.busError.optr = s.optr := rfl
@[simp] theorem State.busError_cursor (s : State) :
    s.busError.cursor = s.cursor := rfl
@[simp] theorem State.busError_clen (s : State) :
    s.busError.clen = s.clen := rfl
@[simp] theorem State.busError_chunkCount (s : State) :
    s.busError.chunkCount = s.chunkCount := rfl
@[simp] theorem State.busError_crcAcc (s : State) :
    s.busError.crcAcc = s.crcAcc := rfl
@[simp] theorem State.busError_tag (s : State) :
    s.busError.tag = s.tag := rfl
@[simp] theorem State.busError_resOff (s : State) :
    s.busError.resOff = s.resOff := rfl
@[simp] theorem State.busError_resLen (s : State) :
    s.busError.resLen = s.resLen := rfl
@[simp] theorem State.busError_resType (s : State) :
    s.busError.resType = s.resType := rfl
@[simp] theorem State.busError_resCrc (s : State) :
    s.busError.resCrc = s.resCrc := rfl
@[simp] theorem State.busError_ibuf (s : State) :
    s.busError.ibuf = s.ibuf := rfl
@[simp] theorem State.busError_obuf (s : State) :
    s.busError.obuf = s.obuf := rfl
@[simp] theorem State.busError_inReset (s : State) :
    s.busError.inReset = s.inReset := rfl
@[simp] theorem State.busError_params (s : State) :
    s.busError.params = s.params := rfl
@[simp] theorem State.busError_events (s : State) :
    s.busError.events = s.events := rfl
@[simp] theorem State.busError_responses (s : State) :
    s.busError.responses = s.responses := rfl
@[simp] theorem State.busError_draws (s : State) :
    s.busError.draws = s.draws := rfl
@[simp] theorem State.busError_epoch (s : State) :
    s.busError.epoch = s.epoch := rfl

@[simp] theorem State.dropWrite_ie (s : State) :
    s.dropWrite.ie = s.ie := rfl
@[simp] theorem State.dropWrite_pending (s : State) :
    s.dropWrite.pending = s.pending := rfl
@[simp] theorem State.dropWrite_done (s : State) :
    s.dropWrite.done = s.done := rfl
@[simp] theorem State.dropWrite_wrBusy (s : State) :
    s.dropWrite.wrBusy = true := rfl
@[simp] theorem State.dropWrite_busErr (s : State) :
    s.dropWrite.busErr = s.busErr := rfl
@[simp] theorem State.dropWrite_cstate (s : State) :
    s.dropWrite.cstate = s.cstate := rfl
@[simp] theorem State.dropWrite_err (s : State) :
    s.dropWrite.err = s.err := rfl
@[simp] theorem State.dropWrite_errOff (s : State) :
    s.dropWrite.errOff = s.errOff := rfl
@[simp] theorem State.dropWrite_src (s : State) :
    s.dropWrite.src = s.src := rfl
@[simp] theorem State.dropWrite_len (s : State) :
    s.dropWrite.len = s.len := rfl
@[simp] theorem State.dropWrite_ibufLen (s : State) :
    s.dropWrite.ibufLen = s.ibufLen := rfl
@[simp] theorem State.dropWrite_optr (s : State) :
    s.dropWrite.optr = s.optr := rfl
@[simp] theorem State.dropWrite_cursor (s : State) :
    s.dropWrite.cursor = s.cursor := rfl
@[simp] theorem State.dropWrite_clen (s : State) :
    s.dropWrite.clen = s.clen := rfl
@[simp] theorem State.dropWrite_chunkCount (s : State) :
    s.dropWrite.chunkCount = s.chunkCount := rfl
@[simp] theorem State.dropWrite_crcAcc (s : State) :
    s.dropWrite.crcAcc = s.crcAcc := rfl
@[simp] theorem State.dropWrite_tag (s : State) :
    s.dropWrite.tag = s.tag := rfl
@[simp] theorem State.dropWrite_resOff (s : State) :
    s.dropWrite.resOff = s.resOff := rfl
@[simp] theorem State.dropWrite_resLen (s : State) :
    s.dropWrite.resLen = s.resLen := rfl
@[simp] theorem State.dropWrite_resType (s : State) :
    s.dropWrite.resType = s.resType := rfl
@[simp] theorem State.dropWrite_resCrc (s : State) :
    s.dropWrite.resCrc = s.resCrc := rfl
@[simp] theorem State.dropWrite_ibuf (s : State) :
    s.dropWrite.ibuf = s.ibuf := rfl
@[simp] theorem State.dropWrite_obuf (s : State) :
    s.dropWrite.obuf = s.obuf := rfl
@[simp] theorem State.dropWrite_inReset (s : State) :
    s.dropWrite.inReset = s.inReset := rfl
@[simp] theorem State.dropWrite_params (s : State) :
    s.dropWrite.params = s.params := rfl
@[simp] theorem State.dropWrite_events (s : State) :
    s.dropWrite.events = s.events := rfl
@[simp] theorem State.dropWrite_responses (s : State) :
    s.dropWrite.responses = s.responses := rfl
@[simp] theorem State.dropWrite_draws (s : State) :
    s.dropWrite.draws = s.draws := rfl
@[simp] theorem State.dropWrite_epoch (s : State) :
    s.dropWrite.epoch = s.epoch := rfl

@[simp] theorem State.complete_bufByte (s : State) (b : BufId) (x : Nat) :
    s.complete.bufByte b x = s.bufByte b x := by cases b <;> rfl
@[simp] theorem State.complete_busy (s : State) : s.complete.busy = false := rfl
@[simp] theorem State.raiseError_bufByte (s : State) (code : ErrCode) (off : Word) (b : BufId) (x : Nat) :
    (s.raiseError code off).bufByte b x = s.bufByte b x := by cases b <;> rfl
@[simp] theorem State.raiseError_busy (s : State) (code : ErrCode) (off : Word) : (s.raiseError code off).busy = false := rfl
@[simp] theorem State.issue_bufByte (s : State) (w : Word) (b : BufId) (x : Nat) :
    (s.issue w).bufByte b x = s.bufByte b x := by cases b <;> rfl
@[simp] theorem State.issue_busy (s : State) (w : Word) : (s.issue w).busy = true := rfl
@[simp] theorem State.setResult_bufByte (s : State) (off len type crc : Word) (b : BufId) (x : Nat) :
    (s.setResult off len type crc).bufByte b x = s.bufByte b x := by cases b <;> rfl
@[simp] theorem State.setResult_busy (s : State) (off len type crc : Word) : (s.setResult off len type crc).busy = s.busy := rfl
@[simp] theorem State.memWrite_bufByte_ibuf (s : State) (a : Nat) (bs : List Byte) (x : Nat) :
    (s.memWrite a bs).bufByte .ibuf x = s.bufByte .ibuf x := rfl
@[simp] theorem State.memWrite_busy (s : State) (a : Nat) (bs : List Byte) : (s.memWrite a bs).busy = s.busy := rfl
@[simp] theorem State.respond_bufByte (s : State) (v : Word) (b : BufId) (x : Nat) :
    (s.respond v).bufByte b x = s.bufByte b x := by cases b <;> rfl
@[simp] theorem State.respond_busy (s : State) (v : Word) : (s.respond v).busy = s.busy := rfl
@[simp] theorem State.respondFree_bufByte (s : State) (b : BufId) (x : Nat) :
    s.respondFree.bufByte b x = s.bufByte b x := by cases b <;> rfl
@[simp] theorem State.respondFree_busy (s : State) : s.respondFree.busy = s.busy := rfl
@[simp] theorem State.respondFreeByte_bufByte (s : State) (b : BufId) (x : Nat) :
    s.respondFreeByte.bufByte b x = s.bufByte b x := by cases b <;> rfl
@[simp] theorem State.respondFreeByte_busy (s : State) : s.respondFreeByte.busy = s.busy := rfl
@[simp] theorem State.busError_bufByte (s : State) (b : BufId) (x : Nat) :
    s.busError.bufByte b x = s.bufByte b x := by cases b <;> rfl
@[simp] theorem State.busError_busy (s : State) : s.busError.busy = s.busy := rfl
@[simp] theorem State.dropWrite_bufByte (s : State) (b : BufId) (x : Nat) :
    s.dropWrite.bufByte b x = s.bufByte b x := by cases b <;> rfl
@[simp] theorem State.dropWrite_busy (s : State) : s.dropWrite.busy = s.busy := rfl

end Sys2Proof.Machine
end

