-- ==== Sys2Proof/Laws/Bytes.lean ====
section
/-! SUPPORT. The laws of the byte-order helpers and of MemRead (00_scope.md R8, 20_memory.md R87). -/

namespace Sys2Proof.Machine

theorem be32_getLsbD (b0 b1 b2 b3 : Byte) (i : Nat) :
    (be32 b0 b1 b2 b3).getLsbD i
      = if i < 8 then b3.getLsbD i else if i < 16 then b2.getLsbD (i - 8)
        else if i < 24 then b1.getLsbD (i - 16) else b0.getLsbD (i - 24) := by
  by_cases h : i < 32
  · interval_cases i <;> simp [be32]
  · rw [BitVec.getLsbD_of_ge _ _ (by omega), if_neg (by omega), if_neg (by omega), if_neg (by omega),
      BitVec.getLsbD_of_ge _ _ (by omega)]

/-- Reading the four bytes of v back gives v. -/
@[simp] theorem be32_bytes (v : Word) :
    be32 (v.extractLsb' 24 8) (v.extractLsb' 16 8) (v.extractLsb' 8 8) (v.extractLsb' 0 8) = v := by
  apply BitVec.eq_of_getLsbD_eq
  intro i hi
  rw [be32_getLsbD]
  interval_cases i <;> simp

theorem be32_extract0 (b0 b1 b2 b3 : Byte) : (be32 b0 b1 b2 b3).extractLsb' 0 8 = b3 := by
  apply BitVec.eq_of_getLsbD_eq
  intro i hi
  rw [BitVec.getLsbD_extractLsb', be32_getLsbD]
  interval_cases i <;> simp

theorem be32_extract8 (b0 b1 b2 b3 : Byte) : (be32 b0 b1 b2 b3).extractLsb' 8 8 = b2 := by
  apply BitVec.eq_of_getLsbD_eq
  intro i hi
  rw [BitVec.getLsbD_extractLsb', be32_getLsbD]
  interval_cases i <;> simp

theorem be32_extract16 (b0 b1 b2 b3 : Byte) : (be32 b0 b1 b2 b3).extractLsb' 16 8 = b1 := by
  apply BitVec.eq_of_getLsbD_eq
  intro i hi
  rw [BitVec.getLsbD_extractLsb', be32_getLsbD]
  interval_cases i <;> simp

theorem be32_extract24 (b0 b1 b2 b3 : Byte) : (be32 b0 b1 b2 b3).extractLsb' 24 8 = b0 := by
  apply BitVec.eq_of_getLsbD_eq
  intro i hi
  rw [BitVec.getLsbD_extractLsb', be32_getLsbD]
  interval_cases i <;> simp

/-- The bytes of a packed word are the bytes it was packed from. -/
@[simp] theorem bytesBE32_be32 (b0 b1 b2 b3 : Byte) : bytesBE32 (be32 b0 b1 b2 b3) = [b0, b1, b2, b3] := by
  simp [bytesBE32, be32_extract0, be32_extract8, be32_extract16, be32_extract24]

@[simp] theorem bytesBE32_length (v : Word) : (bytesBE32 v).length = 4 := rfl

@[simp] theorem bytesLE32_length (v : Word) : (bytesLE32 v).length = 4 := rfl

theorem bytesBE32_inj {v w : Word} (h : bytesBE32 v = bytesBE32 w) : v = w := by
  simp only [bytesBE32, List.cons.injEq, and_true] at h
  obtain ⟨h3, h2, h1, h0⟩ := h
  rw [← be32_bytes v, h3, h2, h1, h0, be32_bytes]

@[simp] theorem toReg_toNat (w : Word) : toReg w.toNat = w := by simp [toReg]

theorem toNat_toReg {n : Nat} (h : n < 2 ^ 32) : (toReg n).toNat = n := by
  rw [toReg, BitVec.toNat_ofNat, Nat.mod_eq_of_lt h]

@[simp] theorem State.memRead_length (s : State) (a n : Nat) : (s.memRead a n).length = n := by
  induction n generalizing a with
  | zero => rfl
  | succ n ih => simp [State.memRead, ih]

@[simp] theorem State.memRead_getElem (s : State) (a n i : Nat) (h : i < (s.memRead a n).length) :
    (s.memRead a n)[i] = s.bufByte .ibuf (a + i) := by
  induction n generalizing a i with
  | zero => simp [State.memRead] at h
  | succ n ih =>
    cases i with
    | zero => simp [State.memRead]
    | succ i =>
      simp only [State.memRead, List.getElem_cons_succ]
      rw [ih, show a + 1 + i = a + (i + 1) by omega]

/-- MemRead of a range is MemRead of its two parts. -/
theorem State.memRead_add (s : State) (a m n : Nat) :
    s.memRead a (m + n) = s.memRead a m ++ s.memRead (a + m) n := by
  induction m generalizing a with
  | zero => simp [State.memRead]
  | succ m ih =>
    rw [show m + 1 + n = (m + n) + 1 by omega]
    simp only [State.memRead, ih, List.cons_append, show a + 1 + m = a + (m + 1) by omega]

theorem State.memRead_four (s : State) (a : Nat) :
    s.memRead a 4 = [s.bufByte .ibuf a, s.bufByte .ibuf (a + 1), s.bufByte .ibuf (a + 2), s.bufByte .ibuf (a + 3)] := rfl

/-- MemRead depends only on the bytes of its range. -/
theorem State.memRead_congr {s t : State} {a n : Nat}
    (h : ∀ x, a ≤ x → x < a + n → t.bufByte .ibuf x = s.bufByte .ibuf x) : t.memRead a n = s.memRead a n := by
  induction n generalizing a with
  | zero => rfl
  | succ n ih =>
    simp only [State.memRead]
    rw [h a (by omega) (by omega), ih fun x hx hx' => h x (by omega) (by omega)]

theorem State.be32At_congr {s t : State} {a : Nat}
    (h : ∀ x, a ≤ x → x < a + 4 → t.bufByte .ibuf x = s.bufByte .ibuf x) : t.be32At a = s.be32At a := by
  unfold State.be32At
  rw [h a (by omega) (by omega), h (a + 1) (by omega) (by omega), h (a + 2) (by omega) (by omega),
    h (a + 3) (by omega) (by omega)]

/-- The four bytes of BE32(IBUF, a) are the four bytes there. -/
theorem State.bytesBE32_be32At (s : State) (a : Nat) : bytesBE32 (s.be32At a) = s.memRead a 4 := by
  simp [State.be32At, State.memRead_four]

/-- BE32(IBUF, a) is v when the four bytes there are the bytes of v. -/
theorem State.be32At_of_memRead {s : State} {a : Nat} {v : Word} (h : s.memRead a 4 = bytesBE32 v) :
    s.be32At a = v := bytesBE32_inj (by rw [State.bytesBE32_be32At, h])

end Sys2Proof.Machine
end

