-- ==== Sys2Proof/Laws/Bus.lean ====
section
/-! SUPPORT. The host port's address decoding, said once: which offsets are the framer's, which accesses are legal, and what a
host access comes down to. -/

namespace Sys2Proof.Machine

theorem regionOffset_hostAddr (s : State) {o : Nat} (h : o < 0x03000000) :
    regionOffset s.params (s.hostAddr o) = some o := by
  unfold regionOffset regionSize State.hostAddr
  rw [if_pos (by omega)]
  congr 1; omega

theorem regionOffset_outside (s : State) {a : Nat} (h : a < s.params.base ∨ s.params.base + 0x03000000 ≤ a) :
    regionOffset s.params a = none := by
  unfold regionOffset regionSize
  rw [if_neg (by omega)]

/-- A host read of a region offset, with the reset input released. -/
theorem State.hostAccess_read (s : State) {o : Nat} (w : Width) (h : o < 0x03000000) (hr : s.inReset = false) :
    s.hostAccess (.read w (s.hostAddr o)) = s.readTarget (targetAt s.params w o) := by
  simp only [State.hostAccess, regionOffset_hostAddr s h, hr, Bool.false_eq_true, if_false]

/-- A host write to a region offset, with the reset input released. -/
theorem State.hostAccess_write (s : State) {o : Nat} (w : Width) (v : Word) (h : o < 0x03000000)
    (hr : s.inReset = false) :
    s.hostAccess (.write w (s.hostAddr o) v) = s.writeTarget v (targetAt s.params w o) := by
  simp only [State.hostAccess, regionOffset_hostAddr s h, hr, Bool.false_eq_true, if_false]

theorem targetAt_register (p : Params) {o : Nat} (h : o < 0x1000) (ha : o % 4 = 0) :
    targetAt p .w32 o = .register (regAt o) := by
  unfold targetAt; rw [if_pos h, if_pos ⟨rfl, ha⟩]

theorem bufSize_legal {p : Params} (h : p.wf = true) : 16 ≤ p.bufSize ∧ p.bufSize ≤ 2 ^ 24 := by
  simp only [Params.wf, WellFormed.bufSizeLegal, Bool.and_eq_true, decide_eq_true_eq] at h
  exact h.1

/-- The legal accesses are exactly those that reach a target (20_memory.md R73, R74). -/
theorem targetAt_eq_busError_iff {p : Params} (hp : p.wf = true) (w : Width) {o : Nat} (h : o < 0x03000000) :
    targetAt p w o = .busError ↔ ¬ legalAccess p w o := by
  have hb := (bufSize_legal hp).2
  unfold targetAt legalAccess ibufWindow obufWindow
  split
  · cases w <;> simp <;> omega
  · split
    · cases w <;> simp <;> omega
    · split
      · cases w <;> simp [bufTarget] <;> omega
      · cases w <;> simp [bufTarget] <;> omega

/-- A 32-bit access inside a buffer. -/
theorem targetAt_word {p : Params} (hp : p.wf = true) {b : BufId} {base a : Nat}
    (hw : (b = .ibuf ∧ base = 0x01000000) ∨ (b = .obuf ∧ base = 0x02000000)) (ha : a % 4 = 0)
    (hi : a + 4 ≤ p.bufSize) : targetAt p .w32 (base + a) = .word b a := by
  have hb := (bufSize_legal hp).2
  unfold targetAt ibufWindow obufWindow
  rcases hw with ⟨rfl, rfl⟩ | ⟨rfl, rfl⟩
  · rw [if_neg (by omega), if_neg (by omega), if_pos (by omega), Nat.add_sub_cancel_left]
    simp only [bufTarget]; rw [if_pos ⟨ha, hi⟩]
  · rw [if_neg (by omega), if_neg (by omega), if_neg (by omega), Nat.add_sub_cancel_left]
    simp only [bufTarget]; rw [if_pos ⟨ha, hi⟩]

/-- An 8-bit access inside a buffer. -/
theorem targetAt_byte {p : Params} (hp : p.wf = true) {b : BufId} {base a : Nat}
    (hw : (b = .ibuf ∧ base = 0x01000000) ∨ (b = .obuf ∧ base = 0x02000000)) (hi : a < p.bufSize) :
    targetAt p .w8 (base + a) = .byte b a := by
  have hb := (bufSize_legal hp).2
  unfold targetAt ibufWindow obufWindow
  rcases hw with ⟨rfl, rfl⟩ | ⟨rfl, rfl⟩
  · rw [if_neg (by omega), if_neg (by omega), if_pos (by omega), Nat.add_sub_cancel_left]
    simp only [bufTarget]; rw [if_pos hi]
  · rw [if_neg (by omega), if_neg (by omega), if_neg (by omega), Nat.add_sub_cancel_left]
    simp only [bufTarget]; rw [if_pos hi]

/-- Where a buffer target lies: inside the buffer (20_memory.md R73, R74). -/
theorem bufTarget_inside {p : Params} {w : Width} {b c : BufId} {x a : Nat} :
    (bufTarget p c w x = .byte b a → b = c ∧ a < p.bufSize)
    ∧ (bufTarget p c w x = .word b a → b = c ∧ a + 4 ≤ p.bufSize) := by
  cases w <;> simp only [bufTarget] <;> constructor <;> intro h <;> (try cases h) <;> split at h <;> cases h
  · exact ⟨rfl, ‹_›⟩
  · rename_i h; exact ⟨rfl, h.2⟩

theorem targetAt_inside {p : Params} {w : Width} {o : Nat} {b : BufId} {a : Nat} :
    (targetAt p w o = .byte b a → a < p.bufSize) ∧ (targetAt p w o = .word b a → a + 4 ≤ p.bufSize) := by
  unfold targetAt
  split
  · split <;> simp
  · split
    · simp
    · split <;> exact ⟨fun h => (bufTarget_inside.1 h).2, fun h => (bufTarget_inside.2 h).2⟩

end Sys2Proof.Machine
end

