-- ==== Sys2Proof/Laws/Commands.lean ====
section
/-! SUPPORT. What each shared operation of the commands can do, said once: the end of a command, parse_frame, the bodies, and
the rule of CONT_VERIFY's loop. -/

namespace Sys2Proof.Machine

/-- The body of a command: the state its pseudocode has written, and how it ends. -/
def commandBody : Instr → State → State × Ending
  | .nop, s => (s, .complete)
  | .crcInit, s => crcInitBody s
  | .crcRange, s => crcRangeBody s
  | .tagLoadText, s => tagLoadTextBody s
  | .tagLoadBytes, s => tagLoadBytesBody s
  | .chunkNew, s => chunkNewBody s
  | .chunkVerify, s => chunkVerifyBody s
  | .contBegin, s => contBeginBody s
  | .contNext, s => contNextBody s
  | .contVerify, s => contVerifyBody s
  | .sigEmit, s => sigEmitBody s

/-- Every command answers the next state that its body and its completion give. -/
theorem exec_eq_finish (i : Instr) (s : State) : exec i s = .next (finish (commandBody i s)) := by
  cases i <;> rfl

@[simp] theorem finish_complete (s : State) : finish (s, .complete) = s.complete := rfl

@[simp] theorem finish_raise (s : State) (code : ErrCode) (off : Word) :
    finish (s, .raise code off) = s.raiseError code off := rfl

@[simp] theorem State.regs_setResult (s : State) (off l t c : Word) (x : Nat) :
    (s.setResult off l t c).be32At x = s.be32At x := rfl

theorem frameBytes_length (t d : List Byte) (ht : t.length = 4) : (frameBytes t d).length = 12 + d.length := by
  simp [frameBytes, ht]; omega

/-- parse_frame answers Ok exactly for a region that is one frame: its length field is n − 12 and its CRC field is the CRC of
its type and data (42_chunk.md R161, R162). -/
theorem State.parseFrame_ok {s : State} {a n : Nat} {l t c : Word} (h : s.parseFrame a n = .ok l t c) :
    n = 12 + l.toNat ∧ l = s.be32At a ∧ t = s.be32At (a + 4) ∧ c = s.be32At (a + 8 + l.toNat)
      ∧ crc32 (s.memRead (a + 4) 4 ++ s.memRead (a + 8) l.toNat) = c := by
  unfold State.parseFrame at h
  split at h
  · cases h
  · dsimp only at h
    split at h
    · cases h
    · split at h
      · cases h
      · split at h
        · cases h
        · cases h
          rename_i h1 h2 h3 h4
          exact ⟨by omega, rfl, rfl, rfl, not_not.1 h3⟩

/-- What parse_frame answers on a region of the size its length field gives (the only one CONT_NEXT uses). -/
theorem State.parseFrame_exact (s : State) (a : Nat) :
    s.parseFrame a (12 + (s.be32At a).toNat)
      = if crc32 (s.memRead (a + 4) 4 ++ s.memRead (a + 8) (s.be32At a).toNat)
            ≠ s.be32At (a + 8 + (s.be32At a).toNat) then .err .crcMismatch
        else .ok (s.be32At a) (s.be32At (a + 4)) (s.be32At (a + 8 + (s.be32At a).toNat)) := by
  unfold State.parseFrame
  rw [if_neg (by omega)]
  dsimp only
  rw [if_neg (by omega)]
  split
  · rfl
  · rw [if_neg (by omega)]

/-- The codes parse_frame can answer. -/
theorem State.parseFrame_err {s : State} {a n : Nat} {code : ErrCode} (h : s.parseFrame a n = .err code) :
    code = .truncated ∨ code = .crcMismatch ∨ code = .lengthMismatch := by
  unfold State.parseFrame at h
  split at h
  · cases h; simp
  · dsimp only at h
    split at h
    · cases h; simp
    · split at h
      · cases h; simp
      · split at h <;> cases h; simp

/-- A region that parse_frame accepts holds the bytes of a frame. -/
theorem State.memRead_of_parseFrame_ok {s : State} {a n : Nat} {l t c : Word} (h : s.parseFrame a n = .ok l t c) :
    s.memRead a n = frameBytes (s.memRead (a + 4) 4) (s.memRead (a + 8) l.toNat) := by
  obtain ⟨hn, hl, ht, hc, hcrc⟩ := State.parseFrame_ok h
  have e : n = 4 + (4 + (l.toNat + 4)) := by omega
  rw [e, State.memRead_add, State.memRead_add, State.memRead_add, frameBytes, State.memRead_length, toReg_toNat, hcrc, hc,
    State.bytesBE32_be32At]
  rw [show a + 4 + 4 = a + 8 by omega]
  conv_rhs => rw [hl, State.bytesBE32_be32At]
  rw [← hl]
  simp

/-- A region that holds the bytes of a frame is accepted by parse_frame. -/
theorem State.parseFrame_of_frame {s : State} {a : Nat} {t d : List Byte} (ht : t.length = 4)
    (hd : d.length < 2 ^ 32) (h : s.memRead a (12 + d.length) = frameBytes t d) :
    s.parseFrame a (12 + d.length) = .ok (toReg d.length) (s.be32At (a + 4)) (crc32 (t ++ d))
      ∧ s.memRead (a + 4) 4 = t ∧ s.memRead (a + 8) d.length = d := by
  have e : 12 + d.length = 4 + (4 + (d.length + 4)) := by omega
  rw [e, State.memRead_add, State.memRead_add, State.memRead_add, frameBytes, List.append_assoc, List.append_assoc] at h
  obtain ⟨hl, h⟩ := List.append_inj h (by simp)
  obtain ⟨h4, h⟩ := List.append_inj h (by simp [ht])
  obtain ⟨h8, hc⟩ := List.append_inj h (by simp)
  rw [show a + 4 + 4 = a + 8 by omega] at h8 hc
  have hl' := State.be32At_of_memRead hl
  have hc' := State.be32At_of_memRead hc
  have hn : (s.be32At a).toNat = d.length := by rw [hl', toNat_toReg hd]
  refine ⟨?_, h4, h8⟩
  have := State.parseFrame_exact s a
  rw [hn] at this
  rw [this, hl', hc', h4, h8, if_neg (by simp)]

/-- What CONT_BEGIN's body can do (43_container.md R193). -/
theorem contBeginBody_cases (s : State) :
    (s.params.bufSize < s.ibufLenN ∧ contBeginBody s
        = ({ s with clen := 0, cursor := 0, chunkCount := 0, cstate := .failed }, .raise .range 0))
    ∨ (s.ibufLenN ≤ s.params.bufSize ∧ (s.ibufLenN < 8 ∨ s.signatureGood = false) ∧ contBeginBody s
        = ({ s with clen := s.ibufLen, cursor := 0, chunkCount := 0, cstate := .failed }, .raise .badSignature 0))
    ∨ (s.ibufLenN ≤ s.params.bufSize ∧ 8 ≤ s.ibufLenN ∧ s.signatureGood = true ∧ contBeginBody s
        = ({ s with clen := s.ibufLen, cursor := 8, chunkCount := 0,
                    cstate := if s.ibufLenN = 8 then .ended else .opened }, .complete)) := by
  unfold contBeginBody
  split
  · exact .inl ⟨‹_›, rfl⟩
  · rename_i h1
    split
    · exact .inr (.inl ⟨Nat.le_of_not_lt h1, ‹_›, rfl⟩)
    · rename_i h2
      rw [not_or] at h2
      exact .inr (.inr ⟨Nat.le_of_not_lt h1, Nat.le_of_not_lt h2.1, by simpa using h2.2, rfl⟩)

/-- What CONT_NEXT's body can do in an OPEN session (43_container.md R194). L is the length field at CURSOR. -/
theorem contNextBody_open {s : State} (ho : s.cstate = .opened) :
    (s.clenN - s.cursorN < 12 + (s.be32At s.cursorN).toNat ∧ contNextBody s = frameError s .truncated)
    ∨ (12 + (s.be32At s.cursorN).toNat ≤ s.clenN - s.cursorN
        ∧ crc32 (s.memRead (s.cursorN + 4) 4 ++ s.memRead (s.cursorN + 8) (s.be32At s.cursorN).toNat)
            ≠ s.be32At (s.cursorN + 8 + (s.be32At s.cursorN).toNat)
        ∧ contNextBody s = frameError s .crcMismatch)
    ∨ (12 + (s.be32At s.cursorN).toNat ≤ s.clenN - s.cursorN
        ∧ crc32 (s.memRead (s.cursorN + 4) 4 ++ s.memRead (s.cursorN + 8) (s.be32At s.cursorN).toNat)
            = s.be32At (s.cursorN + 8 + (s.be32At s.cursorN).toNat)
        ∧ contNextBody s = (acceptFrame s (s.be32At s.cursorN) (s.be32At (s.cursorN + 4))
            (s.be32At (s.cursorN + 8 + (s.be32At s.cursorN).toNat)), .complete)) := by
  unfold contNextBody
  rw [if_neg (by simp [ho])]
  dsimp only
  split
  · exact .inl ⟨by omega, rfl⟩
  · split
    · exact .inl ⟨‹_›, rfl⟩
    · rw [State.parseFrame_exact]
      split
      · rename_i heq
        split at heq
        · cases heq; exact .inr (.inl ⟨by omega, ‹_›, rfl⟩)
        · cases heq
      · rename_i heq
        split at heq
        · cases heq
        · cases heq; exact .inr (.inr ⟨by omega, not_not.1 ‹_›, rfl⟩)

/-- With no OPEN session CONT_NEXT's body only raises STATE (43_container.md R194). -/
theorem contNextBody_closed {s : State} (ho : s.cstate ≠ .opened) :
    contNextBody s = (s, .raise .sessionState 0) := by
  unfold contNextBody; rw [if_pos ho]

/-- Accepting a frame that fits in CLEN moves CURSOR exactly past it. -/
theorem acceptFrame_cursorN {s : State} {l t c : Word} (h : 12 + l.toNat ≤ s.clenN - s.cursorN) :
    (acceptFrame s l t c).cursorN = s.cursorN + 12 + l.toNat := by
  have := s.clen.isLt
  simp only [State.cursorN, State.clenN] at *
  exact toNat_toReg (n := s.cursor.toNat + 12 + l.toNat) (by omega)

/-- A pass of CONT_VERIFY's loop that completes moves CURSOR by at least 12, within an unchanged CLEN. -/
theorem contNextBody_progress {s t : State} (h : contNextBody s = (t, .complete)) :
    t.clen = s.clen ∧ s.cursorN + 12 ≤ t.cursorN ∧ t.cursorN ≤ s.clenN := by
  by_cases ho : s.cstate = .opened
  · rcases contNextBody_open ho with ⟨-, e⟩ | ⟨-, -, e⟩ | ⟨hfit, -, e⟩
    · rw [e] at h; cases h
    · rw [e] at h; cases h
    · rw [e] at h; cases h
      rw [acceptFrame_cursorN hfit]
      exact ⟨rfl, by omega, by omega⟩
  · rw [contNextBody_closed ho] at h; cases h

/-- The rule of CONT_VERIFY's loop (43_container.md R195): what holds before it and is kept by every pass that completes
holds when it ends, and a pass that raises ends it. The fuel is enough when CLEN − CURSOR < 12 · fuel. -/
theorem verifyLoop_rule {P : State → Prop} {Q : State × Ending → Prop}
    (pass : ∀ s t, P s → s.cstate = .opened → contNextBody s = (t, .complete) → P t)
    (fail : ∀ s t code off, P s → s.cstate = .opened → contNextBody s = (t, .raise code off) → Q (t, .raise code off))
    (stop : ∀ s, P s → s.cstate ≠ .opened → Q (s, .complete))
    {fuel : Nat} {s : State} (hP : P s) (hfuel : s.clenN - s.cursorN < 12 * fuel) : Q (verifyLoop fuel s) := by
  induction fuel generalizing s with
  | zero => omega
  | succ fuel ih =>
    simp only [verifyLoop]
    split
    · rename_i ho
      split
      · rename_i t code off e
        exact fail s t code off hP ho e
      · rename_i t e
        obtain ⟨hc, hlo, hhi⟩ := contNextBody_progress e
        exact ih (pass s t hP ho e) (by simp only [State.clenN, hc] at *; omega)
    · exact stop s hP ‹_›

/-- The rule of CONT_VERIFY's body: CONT_BEGIN's body, and then the loop (43_container.md R195). -/
theorem contVerifyBody_rule {P : State → Prop} {Q : State × Ending → Prop} {s : State}
    (begin_fails : ∀ t code off, contBeginBody s = (t, .raise code off) → Q (t, .raise code off))
    (begins : ∀ t, contBeginBody s = (t, .complete) → P t)
    (pass : ∀ u t, P u → u.cstate = .opened → contNextBody u = (t, .complete) → P t)
    (fail : ∀ u t code off, P u → u.cstate = .opened → contNextBody u = (t, .raise code off) → Q (t, .raise code off))
    (stop : ∀ u, P u → u.cstate ≠ .opened → Q (u, .complete)) : Q (contVerifyBody s) := by
  unfold contVerifyBody
  split
  · rename_i t code off e
    exact begin_fails t code off e
  · rename_i t e
    refine verifyLoop_rule pass fail stop (begins t e) ?_
    unfold State.verifyFuel
    omega

end Sys2Proof.Machine
end

