-- ==== Sys2Proof/Laws/Memory.lean ====
section
/-! SUPPORT. The laws of a byte memory: a read after a write to the same byte, every other byte left alone, and the canonical
form and the bounds kept by every memory operation. -/

namespace Sys2Proof.Machine

@[simp] theorem Memory.byteAt_nil (a : Nat) : Memory.byteAt [] a = none := rfl

@[simp] theorem Memory.storeBytes_nil (m : Memory) (a : Nat) : m.storeBytes a [] = m := rfl

@[simp] theorem Memory.storeBytes_cons (m : Memory) (a : Nat) (v : Byte) (s : List Byte) :
    m.storeBytes a (v :: s) = (m.store a v).storeBytes (a + 1) s := rfl

@[simp] theorem Memory.byteAt_store_same (m : Memory) (a : Nat) (v : Byte) : (m.store a v).byteAt a = some v := by
  induction m with
  | nil => simp [Memory.store, Memory.byteAt]
  | cons c m ih =>
    obtain ⟨b, w⟩ := c
    simp only [Memory.store]
    split
    · simp [Memory.byteAt]
    · split
      · simp [Memory.byteAt]
      · simp [Memory.byteAt, ih, Ne.symm ‹¬ a = b›]

theorem Memory.byteAt_store_other {m : Memory} {a x : Nat} (v : Byte) (h : x ≠ a) :
    (m.store a v).byteAt x = m.byteAt x := by
  induction m with
  | nil => simp [Memory.store, Memory.byteAt, Ne.symm h]
  | cons c m ih =>
    obtain ⟨b, w⟩ := c
    simp only [Memory.store]
    split
    · simp [Memory.byteAt, Ne.symm h]
    · split
      · subst_vars; simp [Memory.byteAt, Ne.symm h]
      · simp [Memory.byteAt, ih]

/-- A byte outside the written range reads as before. -/
theorem Memory.byteAt_storeBytes_outside {m : Memory} {a x : Nat} {s : List Byte} (h : x < a ∨ a + s.length ≤ x) :
    (m.storeBytes a s).byteAt x = m.byteAt x := by
  induction s generalizing m a with
  | nil => rfl
  | cons v s ih =>
    simp only [List.length_cons] at h
    rw [Memory.storeBytes_cons, ih (by omega), Memory.byteAt_store_other v (by omega)]

/-- A byte of the written range reads as the byte written there. -/
theorem Memory.byteAt_storeBytes_inside {m : Memory} {a i : Nat} {s : List Byte} (h : i < s.length) :
    (m.storeBytes a s).byteAt (a + i) = some s[i] := by
  induction s generalizing m a i with
  | nil => simp at h
  | cons v s ih =>
    rw [Memory.storeBytes_cons]
    cases i with
    | zero => rw [Memory.byteAt_storeBytes_outside (by omega)]; simp
    | succ i =>
      have h' : i < s.length := by simpa using h
      have := ih (m := m.store a v) (a := a + 1) h'
      rw [show a + 1 + i = a + (i + 1) by omega] at this
      simpa using this

theorem Memory.mem_store {m : Memory} {a : Nat} {v : Byte} {c : Host.Cell} (h : c ∈ m.store a v) :
    c = (a, v) ∨ c ∈ m := by
  induction m with
  | nil => simpa [Memory.store] using h
  | cons d m ih =>
    obtain ⟨b, w⟩ := d
    simp only [Memory.store] at h
    split at h
    · simpa using h
    · split at h
      · rcases List.mem_cons.1 h with h | h
        · exact .inl h
        · exact .inr (List.mem_cons_of_mem _ h)
      · rcases List.mem_cons.1 h with h | h
        · exact .inr (h ▸ List.mem_cons_self)
        · exact (ih h).imp_right (List.mem_cons_of_mem _)

/-- Writing a byte keeps the canonical form. -/
theorem Memory.store_wf {m : Memory} (h : m.wf) (a : Nat) (v : Byte) : (m.store a v).wf := by
  induction m with
  | nil => simp [Memory.store, Memory.wf]
  | cons c m ih =>
    obtain ⟨b, w⟩ := c
    obtain ⟨hb, hm⟩ := List.pairwise_cons.1 h
    simp only [Memory.store]
    split
    · refine List.pairwise_cons.2 ⟨fun c hc => ?_, h⟩
      rcases List.mem_cons.1 hc with rfl | hc
      · assumption
      · have := hb c hc; simp only at *; omega
    · split
      · subst_vars; exact List.pairwise_cons.2 ⟨hb, hm⟩
      · refine List.pairwise_cons.2 ⟨fun c hc => ?_, ih hm⟩
        rcases Memory.mem_store hc with rfl | hc
        · simp only; omega
        · exact hb c hc

/-- Writing a byte of the buffer keeps every listed byte inside it. -/
theorem Memory.store_within {m : Memory} {size a : Nat} (h : m.within size) (ha : a < size) (v : Byte) :
    (m.store a v).within size := by
  intro c hc
  rcases Memory.mem_store hc with rfl | hc
  · exact ha
  · exact h c hc

theorem Memory.storeBytes_wf {m : Memory} (h : m.wf) (a : Nat) (s : List Byte) : (m.storeBytes a s).wf := by
  induction s generalizing m a with
  | nil => exact h
  | cons v s ih => exact ih (Memory.store_wf h a v) (a + 1)

theorem Memory.storeBytes_within {m : Memory} {size a : Nat} {s : List Byte} (h : m.within size)
    (ha : a + s.length ≤ size) : (m.storeBytes a s).within size := by
  induction s generalizing m a with
  | nil => exact h
  | cons v s ih =>
    simp only [List.length_cons] at ha
    exact ih (Memory.store_within h (by omega) v) (by omega)

theorem Memory.storeTorn_wf {m : Memory} (h : m.wf) (n i a : Nat) (s : List Byte) :
    (Memory.storeTorn n i m a s).wf := by
  induction s generalizing m a i with
  | nil => exact h
  | cons v s ih =>
    simp only [Memory.storeTorn]
    split
    · exact ih (Memory.store_wf h a v) ..
    · exact ih h ..

theorem Memory.storeTorn_within {m : Memory} {size n i a : Nat} {s : List Byte} (h : m.within size)
    (ha : a + s.length ≤ size) : (Memory.storeTorn n i m a s).within size := by
  induction s generalizing m a i with
  | nil => exact h
  | cons v s ih =>
    simp only [List.length_cons] at ha
    simp only [Memory.storeTorn]
    split
    · exact ih (Memory.store_within h (by omega) v) (by omega)
    · exact ih h (by omega)

/-- A byte outside an abandoned command's destination reads as before. -/
theorem Memory.byteAt_storeTorn_outside {m : Memory} {n i a x : Nat} {s : List Byte}
    (h : x < a ∨ a + s.length ≤ x) : (Memory.storeTorn n i m a s).byteAt x = m.byteAt x := by
  induction s generalizing m a i with
  | nil => rfl
  | cons v s ih =>
    simp only [List.length_cons] at h
    simp only [Memory.storeTorn]
    rw [ih (by omega)]
    split
    · exact Memory.byteAt_store_other v (by omega)
    · rfl

/-- A byte of an abandoned command's destination is the new byte or the old one, by its free choice. -/
theorem Memory.byteAt_storeTorn_inside {m : Memory} {n i a k : Nat} {s : List Byte} (h : k < s.length) :
    (Memory.storeTorn n i m a s).byteAt (a + k)
      = if Config.tornNew n (i + k) then some s[k] else m.byteAt (a + k) := by
  induction s generalizing m a i k with
  | nil => simp at h
  | cons v s ih =>
    simp only [Memory.storeTorn]
    cases k with
    | zero =>
      rw [Memory.byteAt_storeTorn_outside (by omega)]
      by_cases hn : Config.tornNew n i <;> simp [hn]
    | succ k =>
      have h' : k < s.length := by simpa using h
      have := ih (m := if Config.tornNew n i then m.store a v else m) (a := a + 1) (i := i + 1) h'
      rw [show a + 1 + k = a + (k + 1) by omega, show i + 1 + k = i + (k + 1) by omega] at this
      rw [this, List.getElem_cons_succ]
      congr 1
      split
      · exact Memory.byteAt_store_other v (by omega)
      · rfl

/-- Reset memory is in the canonical form, and within any bound. -/
theorem Memory.reset_wf : State.reset.ibuf.wf ∧ State.reset.obuf.wf := by decide

end Sys2Proof.Machine
end

