-- ==== Sys2Proof/Laws/PerInstr.lean ====
section
/-! SUPPORT. What every command's word looks like, constructor by constructor (30_encoding.md R100, R103): RSV is 0 and the word
is one that WellFormed accepts. -/

namespace Sys2Proof.Laws.WordShape

/-- The word of the command i has RSV = 0 and is well formed. -/
def Statement (i : Instr) : Prop := rsvField (encode i) = 0 ∧ WellFormed.commandWord (encode i) = true

theorem nop : Statement .nop := by unfold Statement; decide

theorem crcInit : Statement .crcInit := by unfold Statement; decide

theorem crcRange : Statement .crcRange := by unfold Statement; decide

theorem tagLoadText : Statement .tagLoadText := by unfold Statement; decide

theorem tagLoadBytes : Statement .tagLoadBytes := by unfold Statement; decide

theorem chunkNew : Statement .chunkNew := by unfold Statement; decide

theorem chunkVerify : Statement .chunkVerify := by unfold Statement; decide

theorem contBegin : Statement .contBegin := by unfold Statement; decide

theorem contNext : Statement .contNext := by unfold Statement; decide

theorem contVerify : Statement .contVerify := by unfold Statement; decide

theorem sigEmit : Statement .sigEmit := by unfold Statement; decide

end Sys2Proof.Laws.WordShape
end

