-- ==== Sys2Proof/Tests/Slice0.lean ====
section
/-! SUPPORT. Tests of single steps, each expected value from a vector of spec/95_test_vectors.md (named in its comment), the
checks of WellFormed on ill-formed terms, and for each statement that has hypotheses a witness that meets them. -/

set_option maxRecDepth 20000

namespace Sys2Proof.Tests

open Sys2Proof.Machine

/-! ### Helpers -/

/-- The reset state with bytes in IBUF from offset a on. -/
def withIbuf (a : Nat) (bs : List Byte) : State := { State.reset with ibuf := Memory.storeBytes [] a bs }

/-- The state after a command. -/
def after (i : Instr) (s : State) : State := finish (commandBody i s)

/-- CHUNK_VERIFY's region: the bytes at IBUF offset 0, LEN of them. -/
def region (bs : List Byte) : State := { withIbuf 0 bs with len := toReg bs.length }

/-- A container buffer at IBUF offset 0. -/
def container (bs : List Byte) : State := { withIbuf 0 bs with ibufLen := toReg bs.length }

/-- A session opened on a container buffer. -/
def session (bs : List Byte) : State := after .contBegin (container bs)

/-- The reset state with a command word in flight. -/
def busyWith (w : Word) : State := State.reset.issue w

/-- "IEND" -/
def txtIend : List Byte := [0x49, 0x45, 0x4E, 0x44]

/-- "RuSt" -/
def txtRust : List Byte := [0x52, 0x75, 0x53, 0x74]

/-- F_IEND of 95_test_vectors.md. -/
def frIend : List Byte := [0x00, 0x00, 0x00, 0x00, 0x49, 0x45, 0x4E, 0x44, 0xAE, 0x42, 0x60, 0x82]

/-- F_A of 95_test_vectors.md: type "RuSt", data "ab". -/
def frA : List Byte := [0x00, 0x00, 0x00, 0x02, 0x52, 0x75, 0x53, 0x74, 0x61, 0x62, 0x94, 0xAC, 0x5D, 0xB2]

/-- F_IEND as a chunk. -/
def chIend : Chunk := { type := txtIend, data := [] }

/-- F_A as a chunk. -/
def chA : Chunk := { type := txtRust, data := [0x61, 0x62] }

theorem exec_after (i : Instr) (s : State) : exec i s = .next (after i s) := exec_eq_finish i s

/-! ### Well-formedness: each check refuses an ill-formed term -/

/-- R104: RSV must be 0. -/
theorem test_wf_reserved_bits : WellFormed.commandWord 0x00000100#32 = false := by decide

/-- R104: OP must be assigned. -/
theorem test_wf_reserved_opcodes :
    [0x03#32, 0x0F#32, 0x12#32, 0x1F#32, 0x22#32, 0x2F#32, 0x34#32, 0xFF#32].all
      (fun w => WellFormed.commandWord w == false) = true := by decide

/-- R6: BUF_SIZE is at least 16 and at most 2^24. -/
theorem test_wf_bufSize : ({ bufSize := 15, base := 0 } : Params).wf = false
    ∧ ({ bufSize := 2 ^ 24 + 1, base := 0 } : Params).wf = false
    ∧ ({ bufSize := 16, base := 2 ^ 26 } : Params).wf = true
    ∧ ({ bufSize := 2 ^ 24, base := 0 } : Params).wf = true := by decide

/-- R6: BASE is aligned to 2^26. -/
theorem test_wf_base : ({ bufSize := 16, base := 2 ^ 25 } : Params).wf = false := by decide

/-! ### Decoding: words written out bit by bit, RSV = 0 in [31:8] and OP in [7:0] (R100, R103) -/

theorem test_decode_crc_family :
    decode 0b00000000_00000000_00000000_00000000#32 = .command .nop
    ∧ decode 0b00000000_00000000_00000000_00000001#32 = .command .crcInit
    ∧ decode 0b00000000_00000000_00000000_00000010#32 = .command .crcRange := by decide

theorem test_decode_tag_family :
    decode 0b00000000_00000000_00000000_00010000#32 = .command .tagLoadText
    ∧ decode 0b00000000_00000000_00000000_00010001#32 = .command .tagLoadBytes := by decide

theorem test_decode_chunk_family :
    decode 0b00000000_00000000_00000000_00100000#32 = .command .chunkNew
    ∧ decode 0b00000000_00000000_00000000_00100001#32 = .command .chunkVerify := by decide

theorem test_decode_container_family :
    decode 0b00000000_00000000_00000000_00110000#32 = .command .contBegin
    ∧ decode 0b00000000_00000000_00000000_00110001#32 = .command .contNext
    ∧ decode 0b00000000_00000000_00000000_00110010#32 = .command .contVerify
    ∧ decode 0b00000000_00000000_00000000_00110011#32 = .command .sigEmit := by decide

/-- E2, E3, E4: reserved bits, and each end of the reserved opcode ranges. -/
theorem test_decode_bad_words :
    [0x00000100#32, 0x80000020#32].all (fun w => decode w == .badCommandWord .reservedBitsSet) = true
    ∧ [0x03#32, 0x0F#32, 0x12#32, 0x1F#32, 0x22#32, 0x2F#32, 0x34#32, 0xFF#32].all
        (fun w => decode w == .badCommandWord .reservedOpcode) = true := by decide

theorem test_table_word : decodeTableWord 32 0x33 = some .sigEmit ∧ decodeTableWord 32 0x34 = none
    ∧ decodeTableWord 8 0x121 = some .chunkVerify := by decide

/-! ### The CRC (vectors Q) -/

/-- Q2, Q4, Q5, Q6. -/
theorem test_crc32 :
    crc32 [0x31, 0x32, 0x33, 0x34, 0x35, 0x36, 0x37, 0x38, 0x39] = 0xCBF43926#32
    ∧ crc32 [0x00] = 0xD202EF8D#32 ∧ crc32 [0xFF] = 0xFF000000#32 ∧ crc32 txtIend = 0xAE426082#32 := by decide +kernel

/-- Q12 to Q15. -/
theorem test_crc_step :
    crcStep 0xFFFFFFFF#32 0x00 = 0x2DFD1072#32 ∧ crcStep 0xFFFFFFFF#32 0x31 = 0x7C231048#32
    ∧ crcStep 0 0x01 = 0x77073096#32 ∧ crcStep 0 0x80 = 0xEDB88320#32 := by decide +kernel

/-- Q2, by the bit-serial form of R121. -/
theorem test_serial_crc32 :
    serialCrc32 [0x31, 0x32, 0x33, 0x34, 0x35, 0x36, 0x37, 0x38, 0x39] = 0xCBF43926#32 := by decide +kernel

/-- T1, T2, T6, T7, T8, T9, T10, T13. -/
theorem test_taginfo :
    taginfo 0#32 = 0x57#32 ∧ taginfo 0x52755374#32 = 0x7D#32 ∧ taginfo 0x52757374#32 = 0x69#32
    ∧ taginfo 0x52753174#32 = 0x49#32 ∧ taginfo 0xC3A94141#32 = 0x15#32 ∧ taginfo 0x72755374#32 = 0x7C#32
    ∧ taginfo 0x74455874#32 = 0x7E#32 ∧ taginfo 0xFFFFFFFF#32 = 0x08#32 := by decide +kernel

/-! ### One command each -/

/-- Q28: NOP clears nothing of an earlier ERR itself: issue does (R106). -/
theorem test_nop : (after .nop ({ State.reset with err := .crcMismatch, errOff := 0x21 }.issue 0)).err = .noError
    ∧ (after .nop ({ State.reset with err := .crcMismatch, errOff := 0x21 }.issue 0)).statusWord = 0x002#32 := by decide

/-- Q25. -/
theorem test_crcInit : (after .crcInit { State.reset with crcAcc := 0x12345678 }).crcAcc = 0xFFFFFFFF#32
    ∧ (after .crcInit { State.reset with crcAcc := 0x12345678 }).crcOut = 0 := by decide

/-- Q2. -/
theorem test_crcRange :
    (after .crcRange (region [0x31, 0x32, 0x33, 0x34, 0x35, 0x36, 0x37, 0x38, 0x39])).crcAcc = 0x340BC6D9#32 := by
  decide +kernel

/-- Q21, Q22, Q24: an empty range may start at BUF_SIZE and not past it; the sum does not wrap. -/
theorem test_crcRange_range :
    (after .crcRange { State.reset with src := 0x10000 }).err = .noError
    ∧ (after .crcRange { State.reset with src := 0x10001 }).err = .range
    ∧ (after .crcRange { State.reset with src := 0xFFFFFFFF, len := 1 }).err = .range := by decide

/-- T20. -/
theorem test_tagLoadText : (after .tagLoadText (region txtRust)).tag = 0x52755374#32
    ∧ (after .tagLoadText (region txtRust)).err = .noError := by decide +kernel

/-- T24, T27, T28: the bytes next to the letters are no letters; RANGE comes before the length. -/
theorem test_tagLoadText_errors :
    [0x40, 0x5B, 0x60, 0x7B].all (fun b => (after .tagLoadText (region [0x41, b, 0x41, 0x41])).err == .invalidTag) = true
    ∧ (after .tagLoadText { State.reset with src := 0xFFFD, len := 4 }).err = .range
    ∧ (after .tagLoadText { State.reset with src := 0xFFFE, len := 2 }).err = .invalidTag := by decide +kernel

/-- T29, T31. -/
theorem test_tagLoadBytes :
    (after .tagLoadBytes { withIbuf 4 [0x52, 0x75, 0x31, 0x74] with src := 4 }).tag = 0x52753174#32
    ∧ (after .tagLoadBytes { State.reset with src := 0xFFFD }).err = .range := by decide +kernel

/-- K1. -/
theorem test_chunkNew : (after .chunkNew (withIbuf 0 txtIend)).obuf = Memory.storeBytes [] 0 frIend
    ∧ (after .chunkNew (withIbuf 0 txtIend)).optr = 0x0C#32
    ∧ (after .chunkNew (withIbuf 0 txtIend)).resCrc = 0xAE426082#32 := by decide +kernel

/-- K20, K19: the last frame that fits in OBUF, and one byte later. -/
theorem test_chunkNew_range :
    (after .chunkNew { withIbuf 0 txtIend with optr := 0xFFF4 }).optr = 0x10000#32
    ∧ (after .chunkNew { withIbuf 0 txtIend with optr := 0xFFF5 }).err = .range := by decide +kernel

/-- K3: the result of a good frame. -/
theorem test_chunkVerify : (after .chunkVerify (region frIend)).err = .noError
    ∧ (after .chunkVerify (region frIend)).resType = 0x49454E44#32
    ∧ (after .chunkVerify (region frIend)).resCrc = 0xAE426082#32 := by decide +kernel

/-- K4, K6, K8, K9a, K11b. -/
theorem test_chunkVerify_errors :
    (after .chunkVerify (region (frIend.take 11))).err = .truncated
    ∧ (after .chunkVerify (region ([0xFF, 0xFF, 0xFF, 0xFF] ++ frIend.drop 4))).err = .truncated
    ∧ (after .chunkVerify (region (frIend ++ [0x00]))).err = .lengthMismatch
    ∧ (after .chunkVerify (region (frIend.set 5 0x46))).err = .crcMismatch
    ∧ (after .chunkVerify (region (frIend ++ [0x65, 0x03, 0x77, 0xD7]))).err = .lengthMismatch := by decide +kernel

/-- S1, S9. -/
theorem test_contBegin : (session Config.pngSig).statusWord = 0x20A#32
    ∧ (session (Config.pngSig ++ [0x00, 0x00])).cstate = .opened
    ∧ (session (Config.pngSig ++ [0x00, 0x00])).cursor = 8#32 := by decide +kernel

/-- S2, S4. -/
theorem test_contBegin_errors : (session (Config.pngSig.take 7)).statusWord = 0x306#32
    ∧ (session (Config.pngSig.take 7)).clen = 7#32
    ∧ (after .contBegin { State.reset with ibufLen := 0x10001 }).err = .range
    ∧ (after .contBegin { State.reset with ibufLen := 0x10001 }).cstate = .failed := by decide +kernel

/-- R194's example. -/
theorem test_contNext : (after .contNext (session (Config.pngSig ++ frIend))).cursor = 20#32
    ∧ (after .contNext (session (Config.pngSig ++ frIend))).chunkCount = 1#32
    ∧ (after .contNext (session (Config.pngSig ++ frIend))).resOff = 8#32
    ∧ (after .contNext (session (Config.pngSig ++ frIend))).cstate = .ended := by decide +kernel

/-- S5, S9. -/
theorem test_contNext_errors : (after .contNext State.reset).err = .sessionState
    ∧ (after .contNext (session (Config.pngSig ++ [0x00, 0x00]))).err = .truncated
    ∧ (after .contNext (session (Config.pngSig ++ [0x00, 0x00]))).errOff = 8#32 := by decide +kernel

/-- Of S6 and S19: F_A and F_IEND in one container. -/
theorem test_contVerify : (after .contVerify (container (Config.pngSig ++ frA ++ frIend))).statusWord = 0x20A#32
    ∧ (after .contVerify (container (Config.pngSig ++ frA ++ frIend))).chunkCount = 2#32
    ∧ (after .contVerify (container (Config.pngSig ++ frA ++ frIend))).resOff = 22#32 := by decide +kernel

/-- S8. -/
theorem test_contVerify_trailing_bytes :
    (after .contVerify (container (Config.pngSig ++ frIend ++ [0, 0, 0, 0, 0]))).err = .truncated
    ∧ (after .contVerify (container (Config.pngSig ++ frIend ++ [0, 0, 0, 0, 0]))).errOff = 0x14#32
    ∧ (after .contVerify (container (Config.pngSig ++ frIend ++ [0, 0, 0, 0, 0]))).chunkCount = 1#32 := by decide +kernel

/-- S16, S18, S17. -/
theorem test_sigEmit : (after .sigEmit State.reset).obuf = Memory.storeBytes [] 0 Config.pngSig
    ∧ (after .sigEmit { State.reset with optr := 0xFFF8 }).optr = 0x10000#32
    ∧ (after .sigEmit { State.reset with optr := 0xFFF9 }).err = .range := by decide +kernel

/-! ### The host port, reset and the step -/

/-- B2, B3: a 32-bit buffer access is little-endian. -/
theorem test_buffer_byte_order :
    (State.reset.hostAccess (.write .w32 0x01000000 0x0000000D)).ibuf = Memory.storeBytes [] 0 [0x0D, 0, 0, 0]
    ∧ ((withIbuf 0 [0x00, 0x00, 0x00, 0x2A]).hostAccess (.read .w32 0x01000000)).responses = [0x2A000000#32] := by
  decide +kernel

/-- B4, B6, B8: the wrong width, a hole, and a reserved register. -/
theorem test_bus_errors :
    (State.reset.hostAccess (.read .w8 0x01C)).busErr = true
    ∧ (State.reset.hostAccess (.read .w32 0x1000)).responses = [0#32]
    ∧ (State.reset.hostAccess (.read .w8 0x01010000)).busErr = true
    ∧ (State.reset.hostAccess (.read .w32 0x0FFC)).busErr = false := by decide +kernel

/-- B16: the dropped writes. -/
theorem test_busy_writes : ((busyWith 0x32).hostAccess (.write .w32 0x01C 5)).src = 0
    ∧ ((busyWith 0x32).hostAccess (.write .w32 0x010 1)).wrBusy = true
    ∧ ((busyWith 0x32).hostAccess (.write .w32 0x010 1)).pending = some 0x32 := by decide

/-- B17, B18. -/
theorem test_soft_reset :
    ({ withIbuf 0 [0x89] with crcAcc := 0x641C1F5C, tag := 0x52755374, optr := 0x20, cstate := .ended }.hostAccess
      (.write .w32 0x008 3)) = { withIbuf 0 [0x89] with draws := 1 } := by decide

/-- A command is placed, and the next step runs it. -/
theorem test_withFetchWord :
    step (State.reset.withFetchWord 32 0x01) = .next { State.reset with done := true } := by rfl

/-- E2: a bad word completes with BAD_COMMAND. -/
theorem test_bad_word_step :
    step (State.reset.withFetchWord 32 0x100) = .next { State.reset with done := true, err := .badCommand } := by rfl

/-! ### Witnesses: concrete states and operands that meet the hypotheses of each statement, clause by clause, at the bounds -/

theorem test_witness_StepRunsTheDecodedCommand :
    (busyWith 0x32).inReset = false ∧ (busyWith 0x32).pending = some 0x32 ∧ decode 0x32 = .command .contVerify
    ∧ (busyWith 0x32).events = [] ∧ ({ busyWith 0x32 with events := [.engine] } : State).events = [.engine] := by decide

/-- For ReservedWordsAreBadCommands, ErrorCodesOfEachCommand and ErrorOffsetAfterCompletion: a bad word in flight. -/
theorem test_witness_BadWordInFlight :
    (busyWith 0xFF).inReset = false ∧ (busyWith 0xFF).pending = some 0xFF
    ∧ decode 0xFF = .badCommandWord .reservedOpcode
    ∧ engineTurn (busyWith 0xFF) = .next (execBadCommand (busyWith 0xFF)) :=
  ⟨by decide, by decide, by decide, rfl⟩

theorem test_witness_StepRunsABadWordAsBadCommand :
    (State.reset.withFetchWord 32 0x100).inReset = false ∧ (State.reset.withFetchWord 32 0x100).pending = some 0x100
    ∧ decode 0x100 = .badCommandWord .reservedBitsSet ∧ (State.reset.withFetchWord 32 0x100).events = [.engine] := by decide

theorem test_witness_StepTakesTheOldestEvent :
    ({ State.reset with events := [.host (.read .w32 0)] } : State).events = [.host (.read .w32 0)]
    ∧ ({ State.reset with events := [.assertReset] } : State).events = [.assertReset]
    ∧ ({ State.reset with events := [.releaseReset] } : State).events = [.releaseReset]
    ∧ State.reset.busy = false ∧ State.reset.events = []
    ∧ ({ State.reset with events := [.engine] } : State).events = [.engine] := by decide

theorem test_witness_CommandWriteIssues : State.reset.inReset = false ∧ State.reset.busy = false
    ∧ decode 0x33 = .command .sigEmit ∧ (busyWith 0).inReset = false ∧ (busyWith 0).busy = true := by decide

/-- For EveryCommandCompletes, ErrorCodesOfEachCommand, NopOnlyCompletes, CrcInitSetsTheRegister and SessionTransitions, for
every command. -/
theorem test_witness_IssueClear : State.reset.IssueClear ∧ ∀ i, exec i State.reset = .next (after i State.reset) :=
  ⟨by decide, fun i => exec_after i _⟩

/-- No error, a frame error of CHUNK_VERIFY at SRC = BUF_SIZE − 1, and one of CONT_NEXT. -/
theorem test_witness_ErrorOffsetAfterCompletion :
    State.reset.IssueClear ∧ exec .nop State.reset = .next (after .nop State.reset)
    ∧ (after .nop State.reset).err.isFrameError = false
    ∧ ({ State.reset with src := 0xFFFF } : State).IssueClear
    ∧ exec .chunkVerify { State.reset with src := 0xFFFF }
        = .next (after .chunkVerify { State.reset with src := 0xFFFF })
    ∧ (after .chunkVerify { State.reset with src := 0xFFFF }).err.isFrameError = true
    ∧ (session (Config.pngSig ++ [0x00])).IssueClear
    ∧ exec .contNext (session (Config.pngSig ++ [0x00])) = .next (after .contNext (session (Config.pngSig ++ [0x00])))
    ∧ (after .contNext (session (Config.pngSig ++ [0x00]))).err.isFrameError = true := by
  refine ⟨by decide, rfl, by decide, by decide, rfl, by decide, by decide +kernel, rfl, by decide +kernel⟩

theorem test_witness_NoPartialEffectOnError :
    State.reset.IssueClear ∧ exec .chunkVerify State.reset = .next (after .chunkVerify State.reset)
    ∧ (after .chunkVerify State.reset).err ≠ .noError ∧ Instr.chunkVerify ≠ .contVerify := by
  refine ⟨by decide, rfl, by decide, by decide⟩

/-- For the four frame statements: a next state of every command; CHUNK_NEW and SIG_EMIT at the last OPTR that fits and at the
next one. -/
theorem test_witness_Frames :
    (∀ i, exec i State.reset = .next (after i State.reset))
    ∧ ({ State.reset with optr := 0xFFF4 } : State).newFrameFits
    ∧ ¬ ({ State.reset with optr := 0xFFF5 } : State).newFrameFits
    ∧ ({ State.reset with optr := 0xFFF8 } : State).inRange 0xFFF8 8
    ∧ ¬ ({ State.reset with optr := 0xFFF9 } : State).inRange 0xFFF9 8 :=
  ⟨fun i => exec_after i _, by decide, by decide, by decide, by decide⟩

/-- An empty range at BUF_SIZE, and one past it. -/
theorem test_witness_CrcRangeFeedsTheRange :
    (let s : State := { State.reset with src := 0x10000 }; s.IssueClear ∧ s.srcN + s.lenN ≤ s.params.bufSize)
    ∧ (let s : State := { State.reset with src := 0x10001 }; s.IssueClear ∧ s.params.bufSize < s.srcN + s.lenN) := by
  decide

theorem test_witness_CrcDinWriteFeedsOneByte :
    State.reset.inReset = false ∧ State.reset.busy = false ∧ (busyWith 0).inReset = false ∧ (busyWith 0).busy = true := by
  decide

/-- For CrcIsLinear and CrcDetectsAChangedByte. -/
theorem test_witness_CrcLaws : [0x00#8, 0x01#8, 0x00#8, 0x00#8].length = txtIend.length ∧ (0x01#8) ≠ 0 := by decide

/-- RANGE at the first SRC past the bound; LEN ≠ 4 at the last SRC in range; a byte next to the letters; "AZaz". -/
theorem test_witness_TagLoadTextChecksAndLoads :
    (let s : State := { State.reset with src := 0xFFFD, len := 4 };
        s.IssueClear ∧ s.params.bufSize < s.srcN + s.lenN)
    ∧ (let s : State := { State.reset with src := 0xFFFE, len := 2 };
        s.IssueClear ∧ s.srcN + s.lenN ≤ s.params.bufSize ∧ s.lenN ≠ 4)
    ∧ (let s := region [0x41, 0x41, 0x41, 0x7B];
        s.IssueClear ∧ s.srcN + s.lenN ≤ s.params.bufSize ∧ ∃ k, k < 4 ∧ alphabetic (s.bufByte .ibuf (s.srcN + k)) = false)
    ∧ (let s := region [0x41, 0x5A, 0x61, 0x7A];
        s.IssueClear ∧ s.srcN + s.lenN ≤ s.params.bufSize ∧ s.lenN = 4
          ∧ ∀ k, k < 4 → alphabetic (s.bufByte .ibuf (s.srcN + k)) = true) :=
  ⟨by decide, by decide, ⟨by decide, by decide, 3, by decide⟩, by decide⟩

theorem test_witness_TagLoadBytesLoads :
    (let s : State := { State.reset with src := 0xFFFC }; s.IssueClear ∧ s.srcN + 4 ≤ s.params.bufSize)
    ∧ (let s : State := { State.reset with src := 0xFFFD }; s.IssueClear ∧ s.params.bufSize < s.srcN + 4) := by decide

/-- K20 with the source range at its bound too; K21; K19. -/
theorem test_witness_ChunkNewWritesTheFrame :
    (let s : State := { State.reset with src := 0xFFFC, optr := 0xFFF4 };
      s.IssueClear ∧ s.params.wf = true ∧ s.srcN + (4 + s.lenN) ≤ s.params.bufSize
        ∧ s.optrN + (12 + s.lenN) ≤ s.params.bufSize)
    ∧ (let s : State := { State.reset with src := 0xFFFD };
      s.IssueClear ∧ s.params.wf = true ∧ s.params.bufSize < s.srcN + (4 + s.lenN))
    ∧ (let s : State := { State.reset with optr := 0xFFF5 };
      s.IssueClear ∧ s.params.wf = true ∧ s.params.bufSize < s.optrN + (12 + s.lenN)) := by decide

/-- K12, K4, K7, K9a, K8, K3. -/
theorem test_witness_ChunkVerifyChecksInOrder :
    (let s : State := { State.reset with src := 0xFFF5, len := 12 };
        s.IssueClear ∧ s.params.bufSize < s.srcN + s.lenN)
    ∧ (let s := region (frIend.take 11); s.IssueClear ∧ s.srcN + s.lenN ≤ s.params.bufSize ∧ s.lenN < 12)
    ∧ (let s := region (frIend.set 3 0x01);
        s.IssueClear ∧ s.srcN + s.lenN ≤ s.params.bufSize ∧ ¬ s.lenN < 12 ∧ s.lenN < 12 + (s.be32At s.srcN).toNat)
    ∧ (let s := region (frIend.set 5 0x46);
        s.IssueClear ∧ s.srcN + s.lenN ≤ s.params.bufSize ∧ 12 + (s.be32At s.srcN).toNat ≤ s.lenN
          ∧ crc32 (s.memRead (s.srcN + 4) 4) ≠ s.be32At (s.srcN + 8))
    ∧ (let s := region (frIend ++ [0x00]);
        s.IssueClear ∧ s.srcN + s.lenN ≤ s.params.bufSize ∧ 12 + (s.be32At s.srcN).toNat ≤ s.lenN
          ∧ crc32 (s.memRead (s.srcN + 4) 4) = s.be32At (s.srcN + 8)
          ∧ 12 + (s.be32At s.srcN).toNat ≠ s.lenN)
    ∧ (let s := region frIend;
        s.IssueClear ∧ s.srcN + s.lenN ≤ s.params.bufSize
          ∧ crc32 (s.memRead (s.srcN + 4) 4) = s.be32At (s.srcN + 8) ∧ 12 + (s.be32At s.srcN).toNat = s.lenN) := by
  decide +kernel

/-- Also a region that is one frame, and one that is not. -/
theorem test_witness_ChunkVerifyAcceptsExactlyFrames :
    (region frA).IssueClear ∧ exec .chunkVerify (region frA) = .next (after .chunkVerify (region frA))
    ∧ (after .chunkVerify (region frA)).err = .noError ∧ chA.wf ∧ (region frA).memRead 0 14 = chA.wire
    ∧ (after .chunkVerify (region (frA.set 8 0))).err ≠ .noError := by
  refine ⟨by decide, rfl, by decide +kernel, by decide, by decide +kernel, by decide +kernel⟩

/-- K1 and then K3: CHUNK_NEW of "RuSt", "ab", and its frame copied to IBUF at 5. -/
theorem test_witness_ChunkRoundTrip :
    let s : State := { withIbuf 0 (frA.drop 4) with len := 2 }
    let t := after .chunkNew s
    let u : State := { withIbuf 5 frA with src := 5, len := 14 }
    s.IssueClear ∧ exec .chunkNew s = .next t ∧ t.err = .noError ∧ u.IssueClear ∧ u.lenN = 12 + s.lenN
    ∧ u.srcN + u.lenN ≤ u.params.bufSize
    ∧ ∀ k, k < 12 + s.lenN → u.bufByte .ibuf (u.srcN + k) = t.bufByte .obuf (s.optrN + k) :=
  ⟨by decide, rfl, by decide +kernel, by decide, by decide, by decide, by decide +kernel⟩

/-- F_A with its length 2 changed to 3, and to 1. -/
theorem test_witness_LengthIntegrity :
    (let s := region (frA.set 3 3);
      chA.wf ∧ s.IssueClear ∧ s.lenN = 12 + chA.data.length ∧ s.srcN + s.lenN ≤ s.params.bufSize
      ∧ s.memRead s.srcN 4 = bytesBE32 3 ∧ s.memRead (s.srcN + 4) (8 + chA.data.length) = chA.wire.drop 4
      ∧ chA.data.length < (3#32).toNat)
    ∧ (let s := region (frA.set 3 1);
      s.IssueClear ∧ s.lenN = 12 + chA.data.length ∧ s.srcN + s.lenN ≤ s.params.bufSize
      ∧ s.memRead s.srcN 4 = bytesBE32 1 ∧ s.memRead (s.srcN + 4) (8 + chA.data.length) = chA.wire.drop 4
      ∧ (1#32).toNat < chA.data.length) := by decide +kernel

/-- The first byte of the type, and the last of the crc. -/
theorem test_witness_ChangedFrameByteIsCrcMismatch :
    chA.wf ∧ (0x01#8) ≠ 0 ∧ chA.wire.length = 14
    ∧ (let s := region (frA.set 4 0x53);
      s.IssueClear ∧ s.lenN = chA.wire.length ∧ s.srcN + s.lenN ≤ s.params.bufSize
      ∧ s.memRead s.srcN s.lenN = chA.wire.modify 4 (· ^^^ 0x01))
    ∧ (let s := region (frA.set 13 0xB3);
      s.IssueClear ∧ s.lenN = chA.wire.length ∧ s.srcN + s.lenN ≤ s.params.bufSize
      ∧ s.memRead s.srcN s.lenN = chA.wire.modify 13 (· ^^^ 0x01)) := by decide +kernel

/-- S4, S2, a wrong byte, and S1 with both ends of the good case. -/
theorem test_witness_ContBeginOpensASession :
    (let s : State := { State.reset with ibufLen := 0x10001 }; s.IssueClear ∧ s.params.bufSize < s.ibufLenN)
    ∧ (let s := container (Config.pngSig.take 7); s.IssueClear ∧ s.ibufLenN ≤ s.params.bufSize ∧ s.ibufLenN < 8)
    ∧ (let s := container (Config.pngSig.set 0 0x88);
        s.IssueClear ∧ s.ibufLenN ≤ s.params.bufSize ∧ s.memRead 0 8 ≠ Config.pngSig)
    ∧ (let s := container Config.pngSig;
        s.IssueClear ∧ s.ibufLenN ≤ s.params.bufSize ∧ 8 ≤ s.ibufLenN ∧ s.memRead 0 8 = Config.pngSig)
    ∧ (let s : State := { container Config.pngSig with ibufLen := 0x10000 };
        s.IssueClear ∧ s.ibufLenN ≤ s.params.bufSize ∧ 8 ≤ s.ibufLenN ∧ s.memRead 0 8 = Config.pngSig) := by decide

/-- S5; S9 (fewer than 12 bytes left); a length past CLEN; a wrong CRC; a good frame that ends at CLEN. -/
theorem test_witness_ContNextTakesOneFrame :
    State.reset.IssueClear ∧ State.reset.cstate ≠ .opened
    ∧ (let s := session (Config.pngSig ++ frIend.take 11); s.IssueClear ∧ s.cstate = .opened ∧ s.clenN < s.cursorN + 12)
    ∧ (let s := session (Config.pngSig ++ frIend.set 3 0x01);
        s.IssueClear ∧ s.cstate = .opened ∧ ¬ s.clenN < s.cursorN + 12
          ∧ s.clenN < s.cursorN + 12 + (s.be32At s.cursorN).toNat)
    ∧ (let s := session (Config.pngSig ++ frIend.set 11 0x83);
        s.IssueClear ∧ s.cstate = .opened ∧ s.cursorN + 12 + (s.be32At s.cursorN).toNat ≤ s.clenN
          ∧ crc32 (s.memRead (s.cursorN + 4) 4) ≠ s.be32At (s.cursorN + 8))
    ∧ (let s := session (Config.pngSig ++ frIend);
        s.IssueClear ∧ s.cstate = .opened ∧ s.cursorN + 12 + (s.be32At s.cursorN).toNat ≤ s.clenN
          ∧ crc32 (s.memRead (s.cursorN + 4) 4) = s.be32At (s.cursorN + 8)) := by decide +kernel

/-- An IBUF that differs at CLEN and past it. -/
theorem test_witness_ContNextReadsOnlyBelowClen :
    let s := session (Config.pngSig ++ frIend)
    (∀ a, a < s.clenN →
      { s with ibuf := Memory.storeBytes [] 0 (Config.pngSig ++ frIend ++ [0xFF]) }.bufByte .ibuf a = s.bufByte .ibuf a)
    ∧ exec .contNext s = .next (after .contNext s) :=
  ⟨by decide +kernel, rfl⟩

/-- No chunk, and two. -/
theorem test_witness_ContVerifyAcceptsContainers :
    (let s := container Config.pngSig;
      s.IssueClear ∧ s.ibufLenN ≤ s.params.bufSize ∧ s.memRead 0 s.ibufLenN = containerOf [])
    ∧ (let s := container (Config.pngSig ++ frA ++ frIend);
      (∀ c ∈ [chA, chIend], c.wf) ∧ s.IssueClear ∧ s.ibufLenN ≤ s.params.bufSize
      ∧ s.memRead 0 s.ibufLenN = containerOf [chA, chIend] ∧ [chA, chIend].getLast? = some chIend) := by decide +kernel

theorem test_witness_ContVerifyAcceptsOnlyContainers :
    let s := container (Config.pngSig ++ frA)
    s.IssueClear ∧ exec .contVerify s = .next (after .contVerify s) ∧ (after .contVerify s).err = .noError :=
  ⟨by decide, rfl, by decide +kernel⟩

/-- Eleven bytes after the signature; a good F_A and then an F_IEND with a wrong crc. -/
theorem test_witness_ContVerifyStopsAtTheBadFrame :
    (let s := container (Config.pngSig ++ frIend.take 11);
      s.IssueClear ∧ s.ibufLenN ≤ s.params.bufSize ∧ 8 = (containerOf []).length ∧ 8 < s.ibufLenN
      ∧ s.memRead 0 8 = containerOf [] ∧ 0 = (s.be32At 8).toNat ∧ s.ibufLenN < 8 + 12 + 0)
    ∧ (let s := container (Config.pngSig ++ frA ++ frIend.set 11 0x83);
      (∀ c ∈ [chA], c.wf) ∧ s.IssueClear ∧ s.ibufLenN ≤ s.params.bufSize ∧ 22 = (containerOf [chA]).length
      ∧ 22 < s.ibufLenN ∧ s.memRead 0 22 = containerOf [chA] ∧ 0 = (s.be32At 22).toNat
      ∧ crc32 (s.memRead (22 + 4) (4 + 0)) ≠ s.be32At (22 + 8 + 0) ∧ [chA].getLast? = some chA) := by decide +kernel

/-- S4, S2, and a wrong byte (S3). -/
theorem test_witness_ContVerifyRefusesABadSignature :
    (let s : State := { State.reset with ibufLen := 0x10001 }; s.IssueClear ∧ s.params.bufSize < s.ibufLenN)
    ∧ (let s := container (Config.pngSig.take 7); s.IssueClear ∧ s.ibufLenN ≤ s.params.bufSize ∧ s.ibufLenN < 8)
    ∧ (let s := container (Config.pngSig.set 0 0x88 ++ frIend);
        s.IssueClear ∧ s.ibufLenN ≤ s.params.bufSize ∧ s.memRead 0 8 ≠ Config.pngSig) := by decide

/-- S18, S17. -/
theorem test_witness_SigEmitWritesTheSignature :
    (let s : State := { State.reset with optr := 0xFFF8 };
      s.IssueClear ∧ s.params.wf = true ∧ s.optrN + 8 ≤ s.params.bufSize)
    ∧ (let s : State := { State.reset with optr := 0xFFF9 };
      s.IssueClear ∧ s.params.wf = true ∧ s.params.bufSize < s.optrN + 8) := by decide

/-- For ChunkCommandsIgnoreCrcAcc and CommandsNeverReadObuf. -/
theorem test_witness_Noninterference :
    (∀ i, exec i State.reset = .next (after i State.reset))
    ∧ ∀ i, exec i { State.reset with obuf := [(0, 0xFF)] } = .next (after i { State.reset with obuf := [(0, 0xFF)] }) :=
  ⟨fun i => exec_after i _, fun i => exec_after i _⟩

theorem test_witness_StepKeepsTheInvariant : State.reset.Inv ∧ step State.reset = .next State.reset := by
  refine ⟨?_, rfl⟩
  constructor <;> decide

theorem test_witness_ResetMeetsTheInvariant : ({ bufSize := 16, base := 2 ^ 26 } : Params).wf = true := by decide

/-- For IdleRegisterReads, StatusWriteClearsOnes and RegisterWritesStore; STATUS and CTRL writes while BUSY too. -/
theorem test_witness_IdleHostAccess :
    State.reset.inReset = false ∧ State.reset.busy = false ∧ (busyWith 0).inReset = false ∧ (busyWith 0).busy = true
    ∧ (1#32).getLsbD 1 = false := by decide

/-- A read-only register, and both ends of the reserved offsets. -/
theorem test_witness_ReadOnlyAndReservedOffsets :
    State.reset.inReset = false ∧ State.reset.busy = false
    ∧ ∀ o ∈ [0x000, 0x064, 0xFFC], o % 4 = 0 ∧ o < 0x1000 ∧
      (o ∈ [0x000, 0x004, 0x014, 0x018, 0x02C, 0x030, 0x034, 0x03C, 0x048, 0x04C, 0x050, 0x054, 0x058, 0x05C, 0x060]
        ∨ 0x064 ≤ o) := by decide

/-- The wrong width, the wrong alignment, both ends of the first hole, the byte past IBUF; and the addresses next to the
region at a BASE of 2^26. -/
theorem test_witness_IllegalAccessesAreBusErrors :
    let s := State.resetWith { bufSize := 16, base := 2 ^ 26 }
    s.inReset = false ∧ s.params.wf = true
    ∧ ¬ legalAccess s.params .w8 0x01C ∧ ¬ legalAccess s.params .w32 0x01E ∧ ¬ legalAccess s.params .w16 0x02000000
    ∧ ¬ legalAccess s.params .w32 0x1000 ∧ ¬ legalAccess s.params .w8 0x00FFFFFF
    ∧ ¬ legalAccess s.params .w8 (0x01000000 + 16) ∧ ¬ legalAccess s.params .other 0x01000000
    ∧ 2 ^ 26 - 1 < s.params.base ∧ s.params.base + 0x03000000 ≤ 2 ^ 26 + 0x03000000 := by
  simp [legalAccess, State.resetWith]; decide

/-- Legal accesses: the last register, the last byte of OBUF, the last word of IBUF, at BUF_SIZE = 16. -/
theorem test_witness_LegalAccesses :
    let p : Params := { bufSize := 16, base := 2 ^ 26 }
    p.wf = true ∧ legalAccess p .w32 0xFFC ∧ legalAccess p .w8 0x0200000F ∧ legalAccess p .w32 0x0100000C := by
  simp [legalAccess]; decide

theorem test_witness_BufferAccessesMoveTheirBytes :
    let s := State.resetWith { bufSize := 16, base := 2 ^ 26 }
    s.inReset = false ∧ s.busy = false ∧ s.params.wf = true ∧ 12 % 4 = 0 ∧ 12 + 4 ≤ s.params.bufSize
    ∧ 15 < s.params.bufSize
    ∧ ((BufId.obuf = .ibuf ∧ 0x02000000 = 0x01000000) ∨ (BufId.obuf = .obuf ∧ 0x02000000 = 0x02000000)) := by decide

/-- For BusyWritesAreDropped, with test_witness_LegalAccesses. -/
theorem test_witness_BusyWritesAreDropped :
    (busyWith 0).inReset = false ∧ (busyWith 0).busy = true ∧ (busyWith 0).params.wf = true
    ∧ legalAccess (busyWith 0).params .w32 0x010 ∧ legalAccess (busyWith 0).params .w8 0x02000000 := by
  refine ⟨by decide, by decide, by decide, .inl ⟨by decide, rfl, by decide⟩,
    .inr ⟨0x02000000, .inr rfl, by decide, .inl ⟨rfl, by decide⟩⟩⟩

theorem test_witness_BusyReadsThatAreExact :
    (busyWith 0x20).inReset = false ∧ (busyWith 0x20).params.wf = true ∧ (busyWith 0x20).pending = some 0x20
    ∧ decode 0x20 ≠ .command .tagLoadText ∧ decode 0x20 ≠ .command .tagLoadBytes ∧ decode 0x20 ≠ .command .crcInit
    ∧ decode 0x20 ≠ .command .crcRange ∧ 0xFFFF < (busyWith 0x20).params.bufSize
    ∧ 0xFFFC % 4 = 0 ∧ 0xFFFC + 4 ≤ (busyWith 0x20).params.bufSize := by decide

theorem test_witness_BusyFreezesTheCommand :
    (busyWith 0).inReset = false ∧ (busyWith 0).busy = true
    ∧ ∀ v, v.getLsbD 1 = true → Access.write .w32 0x01C 5 ≠ .write .w32 ((busyWith 0).hostAddr 0x008) v := by
  refine ⟨by decide, by decide, fun v _ h => ?_⟩
  injection h with _ h _
  exact absurd h (by decide)

/-- The accesses of SessionTransitions: one that is no soft reset, a soft reset, and the reset input. -/
theorem test_witness_SessionTransitions :
    (∀ v, v.getLsbD 1 = true → Access.read .w32 0 ≠ .write .w32 (State.reset.hostAddr 0x008) v)
    ∧ State.reset.inReset = false ∧ (3#32).getLsbD 1 = true
    ∧ ({ State.reset with inReset := true } : State).inReset = true := by
  refine ⟨fun v _ h => (by cases h), by decide, by decide, by decide⟩

/-- For HardwareResetValues and the last clause of IrqIsEnabledCompletion. -/
theorem test_witness_HardwareResetValues :
    let s : State := { State.resetWith { bufSize := 16, base := 2 ^ 26 } with inReset := true }
    s.inReset = true ∧ 0x02FFFFFF < 0x03000000 ∧ 2 ^ 26 - 1 < s.params.base
    ∧ s.params.base + 0x03000000 ≤ 2 ^ 26 + 0x03000000 := by decide

/-- No command in flight; a CHUNK_NEW in flight that fits; a bad word in flight. -/
theorem test_witness_SoftReset :
    State.reset.inReset = false ∧ (2#32).getLsbD 1 = true ∧ State.reset.inFlight = none
    ∧ (busyWith 0x20).inFlight = some (.command .chunkNew) ∧ (busyWith 0x20).newFrameFits
    ∧ exec .chunkNew (busyWith 0x20) = .next (after .chunkNew (busyWith 0x20))
    ∧ (busyWith 0xFF).inFlight = some (.badCommandWord .reservedOpcode) :=
  ⟨by decide, by decide, by decide, by decide, by decide, rfl, by decide⟩

theorem test_witness_IrqIsEnabledCompletion :
    State.reset.inReset = false ∧ (2#32).getLsbD 1 = true ∧ State.reset.busy = false
    ∧ (∀ i, exec i State.reset = .next (after i State.reset))
    ∧ ({ State.reset with ie := true, done := true } : State).irq = true :=
  ⟨by decide, by decide, by decide, fun i => exec_after i _, by decide⟩

end Sys2Proof.Tests
end

namespace Sys2Proof.Machine

/-! ### What a step may lead to

The proof that every step keeps the invariant is about the relation `State.Follows`, so that each operation of the model is
taken apart once for the invariant and for the parameters. A command's body is held to the invariant too, since it leaves
the pending command, DONE and ERR to the completion (60_exceptions.md R224). -/

/-- t may come after s: it meets the invariant and has s's parameters. -/
structure State.Follows (s t : State) : Prop where
  inv : t.Inv
  params : t.params = s.params

/-- An error that a command may report (60_exceptions.md R223, R226). -/
structure Reportable (code : ErrCode) (off : Word) : Prop where
  never : code ≠ .invalidEncoding ∧ code ≠ .chunkNotFound
  offset : code.isFrameError = false → off = 0

/-- A command's body may end so from s: in a state that may follow, and, if it raises, with an error it may report. -/
def State.BodyFollows (s : State) : State × Ending → Prop
  | (t, .complete) => s.Follows t
  | (t, .raise code off) => s.Follows t ∧ Reportable code off

theorem State.Follows.trans {s t u : State} (hst : s.Follows t) (htu : t.Follows u) : s.Follows u :=
  ⟨htu.inv, htu.params.trans hst.params⟩

theorem State.Follows.trans_body {s t : State} (hst : s.Follows t) {r : State × Ending} (h : t.BodyFollows r) :
    s.BodyFollows r := by
  match r, h with
  | (_, .complete), h => exact hst.trans h
  | (_, .raise _ _), ⟨h, hr⟩ => exact ⟨hst.trans h, hr⟩

theorem State.Inv.refl {s : State} (hi : s.Inv) : s.Follows s := ⟨hi, rfl⟩

/-- A frame error may have any offset. -/
theorem reportable_frameError {code : ErrCode} (h : code = .truncated ∨ code = .crcMismatch ∨ code = .lengthMismatch)
    (off : Word) : Reportable code off := by
  rcases h with rfl | rfl | rfl <;> exact ⟨by decide, nofun⟩

/-- An error that is reported at offset 0. -/
theorem reportable_zero {code : ErrCode} (h : code ≠ .invalidEncoding ∧ code ≠ .chunkNotFound) : Reportable code 0 :=
  ⟨h, fun _ => rfl⟩

theorem State.Inv.follows_raiseError {s : State} (hi : s.Inv) {code : ErrCode} {off : Word} (h : Reportable code off) :
    s.Follows (s.raiseError code off) :=
  ⟨{ hi with issued := nofun, err_never := h.never, errOff_zero := h.offset }, rfl⟩

/-- A completion (60_exceptions.md R224) keeps what a command's body has kept. -/
theorem State.BodyFollows.finish {s : State} {r : State × Ending} (h : s.BodyFollows r) : s.Follows (finish r) := by
  match r, h with
  | (_, .complete), h => exact h.trans ⟨{ h.inv with issued := nofun }, rfl⟩
  | (_, .raise _ _), ⟨h, hr⟩ => exact h.trans (h.inv.follows_raiseError hr)

theorem State.Inv.follows_memWrite {s : State} (hi : s.Inv) {a : Nat} {bs : List Byte} (h : s.inRange a bs.length) :
    s.Follows (s.memWrite a bs) :=
  ⟨{ hi with obuf_wf := Memory.storeBytes_wf hi.obuf_wf .., obuf_within := Memory.storeBytes_within hi.obuf_within h }, rfl⟩

/-! ### The commands' bodies -/

/-- A body's branch that only raises an error at offset 0. -/
theorem State.Inv.body_raise {s : State} (hi : s.Inv) {code : ErrCode}
    (h : code ≠ .invalidEncoding ∧ code ≠ .chunkNotFound) : s.BodyFollows (s, .raise code 0) :=
  ⟨hi.refl, reportable_zero h⟩

theorem crcRangeBody_follows {s : State} (hi : s.Inv) : s.BodyFollows (crcRangeBody s) := by
  unfold crcRangeBody
  split
  · exact ⟨{ hi with }, rfl⟩
  · exact hi.body_raise (by decide)

theorem tagLoadTextBody_follows {s : State} (hi : s.Inv) : s.BodyFollows (tagLoadTextBody s) := by
  unfold tagLoadTextBody
  split
  · split
    · exact hi.body_raise (by decide)
    · split
      · exact ⟨{ hi with }, rfl⟩
      · exact hi.body_raise (by decide)
  · exact hi.body_raise (by decide)

theorem tagLoadBytesBody_follows {s : State} (hi : s.Inv) : s.BodyFollows (tagLoadBytesBody s) := by
  unfold tagLoadBytesBody
  split
  · exact ⟨{ hi with }, rfl⟩
  · exact hi.body_raise (by decide)

theorem State.newFrame_length (s : State) : s.newFrame.length = 12 + s.lenN := by
  rw [State.newFrame, frameBytes_length _ _ (State.memRead_length ..), State.memRead_length]

theorem chunkNewBody_follows {s : State} (hi : s.Inv) : s.BodyFollows (chunkNewBody s) := by
  unfold chunkNewBody
  split
  · next hfits =>
    have hw : s.Follows (s.memWrite s.optrN s.newFrame) :=
      hi.follows_memWrite (by rw [State.newFrame_length]; exact hfits.2)
    exact ⟨{ hw.inv with }, rfl⟩
  · exact hi.body_raise (by decide)

theorem chunkVerifyBody_follows {s : State} (hi : s.Inv) : s.BodyFollows (chunkVerifyBody s) := by
  unfold chunkVerifyBody
  split
  · split
    · next code herr => exact ⟨hi.refl, reportable_frameError (State.parseFrame_err herr) _⟩
    · exact ⟨{ hi with }, rfl⟩
  · exact hi.body_raise (by decide)

theorem sigEmitBody_follows {s : State} (hi : s.Inv) : s.BodyFollows (sigEmitBody s) := by
  unfold sigEmitBody
  split
  · next hfits =>
    have hw : s.Follows (s.memWrite s.optrN Config.pngSig) := hi.follows_memWrite hfits
    exact ⟨{ hw.inv with }, rfl⟩
  · exact hi.body_raise (by decide)

/-- A CONT_BEGIN that fails leaves a FAILED session at CURSOR 0 (43_container.md R193). -/
theorem State.Inv.follows_failedSession {s : State} (hi : s.Inv) {c : Word} (h : c.toNat ≤ s.params.bufSize) :
    s.Follows { s with clen := c, cursor := 0, chunkCount := 0, cstate := .failed } :=
  ⟨{ hi with
      cursor_le_clen := Nat.zero_le _, clen_le_bufSize := h, count_le_cursor := Nat.le_refl _
      idle_session := nofun, open_session := nofun, ended_session := nofun }, rfl⟩

/-- A CONT_BEGIN that succeeds leaves a session at CURSOR 8, ENDED when that is CLEN (43_container.md R193). -/
theorem State.Inv.follows_begunSession {s : State} (hi : s.Inv) (hfits : s.ibufLenN ≤ s.params.bufSize)
    (hsig : 8 ≤ s.ibufLenN) :
    s.Follows { s with clen := s.ibufLen, cursor := 8, chunkCount := 0,
                       cstate := if s.ibufLenN = 8 then .ended else .opened } := by
  refine ⟨{ hi with
    cursor_le_clen := hsig, clen_le_bufSize := hfits, count_le_cursor := Nat.zero_le _
    idle_session := fun h => ?_, open_session := fun h => ?_, ended_session := fun h => ?_ }, rfl⟩
  · dsimp only at h; split at h <;> cases h
  · dsimp only at h
    split at h
    · cases h
    · next hne => exact ⟨Nat.le_refl _, Nat.lt_of_le_of_ne hsig (Ne.symm hne)⟩
  · dsimp only at h
    split at h
    · next heq => exact ⟨Nat.le_refl _, BitVec.eq_of_toNat_eq heq.symm⟩
    · cases h

theorem contBeginBody_follows {s : State} (hi : s.Inv) : s.BodyFollows (contBeginBody s) := by
  rcases contBeginBody_cases s with ⟨-, e⟩ | ⟨hfits, -, e⟩ | ⟨hfits, hsig, -, e⟩ <;> rw [e]
  · exact ⟨hi.follows_failedSession (Nat.zero_le _), reportable_zero (by decide)⟩
  · exact ⟨hi.follows_failedSession hfits, reportable_zero (by decide)⟩
  · exact hi.follows_begunSession hfits hsig

theorem frameError_follows {s : State} (hi : s.Inv) {code : ErrCode}
    (h : code = .truncated ∨ code = .crcMismatch ∨ code = .lengthMismatch) : s.BodyFollows (frameError s code) :=
  ⟨⟨{ hi with idle_session := nofun, open_session := nofun, ended_session := nofun }, rfl⟩, reportable_frameError h _⟩

/-- A frame that fits in CLEN moves CURSOR past at least 12 bytes, which pays for the chunk it counts (10_state.md R39). -/
theorem acceptFrame_follows {s : State} (hi : s.Inv) (ho : s.cstate = .opened) {l t c : Word}
    (hfits : 12 + l.toNat ≤ s.clenN - s.cursorN) : s.Follows (acceptFrame s l t c) := by
  have hcur : (acceptFrame s l t c).cursorN = s.cursorN + 12 + l.toNat := acceptFrame_cursorN hfits
  have hclen : (acceptFrame s l t c).clenN = s.clenN := rfl
  have hcs : (acceptFrame s l t c).cstate
      = if (acceptFrame s l t c).cursor = (acceptFrame s l t c).clen then .ended else s.cstate := rfl
  have hcount : (acceptFrame s l t c).chunkCount.toNat ≤ s.chunkCount.toNat + 1 := by
    rw [show (acceptFrame s l t c).chunkCount = s.chunkCount + 1 from rfl, BitVec.toNat_add]
    exact Nat.mod_le _ _
  obtain ⟨h8, -⟩ := hi.open_session ho
  have hle : (acceptFrame s l t c).cursorN ≤ (acceptFrame s l t c).clenN := by omega
  refine ⟨{ hi with
    cursor_le_clen := hle, count_le_cursor := ?_
    idle_session := fun h => ?_, open_session := fun h => ?_, ended_session := fun h => ?_ }, rfl⟩
  · rw [hcs, ho] at h; split at h <;> cases h
  · rw [hcs] at h
    split at h
    · cases h
    · next hne => exact ⟨by omega, Nat.lt_of_le_of_ne hle fun heq => hne (BitVec.eq_of_toNat_eq heq)⟩
  · rw [hcs, ho] at h
    split at h
    · next heq => exact ⟨by omega, heq⟩
    · cases h
  · have := hi.count_le_cursor
    omega

theorem contNextBody_follows {s : State} (hi : s.Inv) : s.BodyFollows (contNextBody s) := by
  by_cases ho : s.cstate = .opened
  · rcases contNextBody_open ho with ⟨-, e⟩ | ⟨-, -, e⟩ | ⟨hfits, -, e⟩ <;> rw [e]
    · exact frameError_follows hi (by decide)
    · exact frameError_follows hi (by decide)
    · exact acceptFrame_follows hi ho hfits
  · rw [contNextBody_closed ho]
    exact hi.body_raise (by decide)

/-- The loop of CONT_VERIFY keeps `s.Follows`: each pass is CONT_NEXT's body (43_container.md R195). -/
theorem contVerifyBody_follows {s : State} (hi : s.Inv) : s.BodyFollows (contVerifyBody s) := by
  refine contVerifyBody_rule (P := s.Follows) (Q := s.BodyFollows) ?begin_fails ?begins ?pass ?fail ?stop
  case begin_fails => exact fun t code off e => e ▸ contBeginBody_follows hi
  case begins =>
    intro t e
    have h := contBeginBody_follows hi
    rwa [e] at h
  case pass =>
    intro u t hu _ e
    have h := hu.trans_body (contNextBody_follows hu.inv)
    rwa [e] at h
  case fail => exact fun u t code off hu _ e => e ▸ hu.trans_body (contNextBody_follows hu.inv)
  case stop => exact fun u hu _ => hu

theorem commandBody_follows {s : State} (hi : s.Inv) (i : Instr) : s.BodyFollows (commandBody i s) := by
  cases i with
  | nop => exact hi.refl
  | crcInit => exact ⟨{ hi with }, rfl⟩
  | crcRange => exact crcRangeBody_follows hi
  | tagLoadText => exact tagLoadTextBody_follows hi
  | tagLoadBytes => exact tagLoadBytesBody_follows hi
  | chunkNew => exact chunkNewBody_follows hi
  | chunkVerify => exact chunkVerifyBody_follows hi
  | contBegin => exact contBeginBody_follows hi
  | contNext => exact contNextBody_follows hi
  | contVerify => exact contVerifyBody_follows hi
  | sigEmit => exact sigEmitBody_follows hi

theorem exec_follows {s t : State} (hi : s.Inv) {i : Instr} (h : exec i s = .next t) : s.Follows t := by
  rw [exec_eq_finish] at h
  cases h
  exact (commandBody_follows hi i).finish

theorem engineTurn_follows {s t : State} (hi : s.Inv) (h : engineTurn s = .next t) : s.Follows t := by
  unfold engineTurn at h
  split at h
  · cases h; exact hi.refl
  · split at h
    · cases h; exact hi.refl
    · exact exec_follows hi h
    · cases h; exact hi.follows_raiseError (reportable_zero (by decide))

/-! ### The resets -/

/-- What an abandoned command would write to OBUF is nothing or lies inside it (70_reset_and_hazards.md R252). -/
theorem State.obufWrite_inside (s : State) (i : Instr) :
    s.obufWrite i = [] ∨ s.inRange s.optrN (s.obufWrite i).length := by
  cases i with
  | chunkNew =>
    simp only [State.obufWrite]
    split
    · next hfits => exact .inr (by rw [State.newFrame_length]; exact hfits.2)
    · exact .inl rfl
  | sigEmit =>
    simp only [State.obufWrite]
    split
    · next hfits => exact .inr hfits
    · exact .inl rfl
  | _ => exact .inl rfl

theorem State.abandonedObuf_wf {s : State} (hi : s.Inv) : s.abandonedObuf.wf := by
  unfold State.abandonedObuf
  split
  · exact Memory.storeTorn_wf hi.obuf_wf ..
  · exact hi.obuf_wf

theorem State.abandonedObuf_within {s : State} (hi : s.Inv) : s.abandonedObuf.within s.params.bufSize := by
  unfold State.abandonedObuf
  split
  · next i _ =>
    rcases s.obufWrite_inside i with hnil | hin
    · rw [hnil]; exact hi.obuf_within
    · exact Memory.storeTorn_within hi.obuf_within hin
  · exact hi.obuf_within

theorem State.Inv.follows_resetRegisters {s : State} (hi : s.Inv) : s.Follows s.resetRegisters :=
  ⟨{ hi with
      cursor_le_clen := Nat.le_refl _, clen_le_bufSize := Nat.zero_le _, count_le_cursor := Nat.le_refl _
      idle_session := fun _ => ⟨rfl, rfl, rfl⟩, open_session := nofun, ended_session := nofun
      issued := nofun, err_never := ⟨nofun, nofun⟩, errOff_zero := fun _ => rfl }, rfl⟩

theorem State.Inv.follows_softReset {s : State} (hi : s.Inv) : s.Follows s.softReset :=
  ⟨{ hi.follows_resetRegisters.inv with
      obuf_wf := State.abandonedObuf_wf hi, obuf_within := State.abandonedObuf_within (s := s) hi }, rfl⟩

theorem State.Inv.follows_releaseReset {s : State} (hi : s.Inv) : s.Follows s.releaseReset := by
  unfold State.releaseReset
  split
  · exact ⟨{ hi.follows_resetRegisters.inv with
      ibuf_wf := .nil, obuf_wf := .nil, ibuf_within := nofun, obuf_within := nofun }, rfl⟩
  · exact hi.refl

/-! ### The host port -/

theorem State.Inv.follows_issue {s : State} (hi : s.Inv) (w : Word) : s.Follows (s.issue w) :=
  ⟨{ hi with
      issued := fun _ => ⟨rfl, rfl, rfl⟩, err_never := ⟨nofun, nofun⟩, errOff_zero := fun _ => rfl }, rfl⟩

/-- STATUS's write-1-to-clear bits only fall, so DONE stays 0 while BUSY = 1 (10_state.md R29). -/
theorem State.Inv.follows_writeStatus {s : State} (hi : s.Inv) (v : Word) : s.Follows (s.writeStatus v) := by
  refine ⟨{ hi with issued := fun hb => ?_ }, rfl⟩
  obtain ⟨hdone, herr⟩ := hi.issued hb
  exact ⟨by simp [State.writeStatus, hdone], herr⟩

theorem State.Inv.follows_writeCtrl {s : State} (hi : s.Inv) (v : Word) : s.Follows (s.writeCtrl v) := by
  unfold State.writeCtrl
  split
  · exact hi.follows_softReset
  · exact ⟨{ hi with }, rfl⟩

theorem State.Inv.follows_writeReg {s : State} (hi : s.Inv) (v : Word) (r : Reg) : s.Follows (s.writeReg v r) := by
  cases r with
  | ctrl => exact hi.follows_writeCtrl v
  | status => exact hi.follows_writeStatus v
  | cmd => exact hi.follows_issue v
  | _ => exact ⟨{ hi with }, rfl⟩

theorem State.Inv.follows_bufStore {s : State} (hi : s.Inv) (b : BufId) {a : Nat} {bs : List Byte}
    (h : s.inRange a bs.length) : s.Follows (s.bufStore b a bs) := by
  cases b with
  | ibuf =>
    exact ⟨{ hi with ibuf_wf := Memory.storeBytes_wf hi.ibuf_wf ..
                     ibuf_within := Memory.storeBytes_within hi.ibuf_within h }, rfl⟩
  | obuf => exact hi.follows_memWrite h

theorem State.Inv.follows_dropWrite {s : State} (hi : s.Inv) : s.Follows s.dropWrite := ⟨{ hi with }, rfl⟩

/-- A host read only answers, and counts a draw or sets BUS_ERR, none of which the invariant speaks of. -/
theorem State.Inv.follows_readTarget {s : State} (hi : s.Inv) (g : Target) : s.Follows (s.readTarget g) := by
  have hanswer (v : Word) : s.Follows (s.respond v) := ⟨{ hi with }, rfl⟩
  have hfree : s.Follows s.respondFree := ⟨{ hi with }, rfl⟩
  cases g with
  | busError => exact ⟨{ hi with }, rfl⟩
  | register r =>
    simp only [State.readTarget]
    split
    · exact hfree
    · exact hanswer _
  | byte b a =>
    cases b with
    | ibuf => exact hanswer _
    | obuf =>
      simp only [State.readTarget]
      split
      · exact ⟨{ hi with }, rfl⟩
      · exact hanswer _
  | word b a =>
    cases b with
    | ibuf => exact hanswer _
    | obuf =>
      simp only [State.readTarget]
      split
      · exact hfree
      · exact hanswer _

/-- A host write keeps the invariant, provided that a buffer target lies inside its buffer. -/
theorem State.Inv.follows_writeTarget {s : State} (hi : s.Inv) (v : Word) {g : Target}
    (hbyte : ∀ b a, g = .byte b a → a < s.params.bufSize)
    (hword : ∀ b a, g = .word b a → a + 4 ≤ s.params.bufSize) : s.Follows (s.writeTarget v g) := by
  cases g with
  | busError => exact ⟨{ hi with }, rfl⟩
  | register r =>
    simp only [State.writeTarget]
    split
    · exact hi.follows_dropWrite
    · exact hi.follows_writeReg v r
  | byte b a =>
    simp only [State.writeTarget]
    split
    · exact hi.follows_dropWrite
    · exact hi.follows_bufStore b (hbyte b a rfl)
  | word b a =>
    simp only [State.writeTarget]
    split
    · exact hi.follows_dropWrite
    · exact hi.follows_bufStore b (hword b a rfl)

theorem State.Inv.follows_hostAccess {s : State} (hi : s.Inv) (a : Access) : s.Follows (s.hostAccess a) := by
  cases a with
  | read w addr =>
    simp only [State.hostAccess]
    split
    · exact hi.refl
    · split
      · exact ⟨{ hi with }, rfl⟩
      · exact hi.follows_readTarget _
  | write w addr v =>
    simp only [State.hostAccess]
    split
    · exact hi.refl
    · split
      · exact hi.refl
      · exact hi.follows_writeTarget v (fun _ _ => targetAt_inside.1) (fun _ _ => targetAt_inside.2)

/-! ### The step -/

theorem takeEvent_follows {s t : State} (hi : s.Inv) {e : Event} (h : takeEvent e s = .next t) : s.Follows t := by
  cases e with
  | host a => cases h; exact hi.follows_hostAccess a
  | engine => exact engineTurn_follows hi h
  | assertReset => cases h; exact ⟨{ hi with }, rfl⟩
  | releaseReset => cases h; exact hi.follows_releaseReset

theorem step_follows {s t : State} (hi : s.Inv) (h : step s = .next t) : s.Follows t := by
  unfold step nextMove at h
  split at h
  · exact engineTurn_follows hi h
  · next _ rest _ =>
    have htaken : s.Follows { s with events := rest } := ⟨{ hi with }, rfl⟩
    exact htaken.trans (takeEvent_follows htaken.inv h)

/-- Settles O43: every operation of the model leads from a state that meets the invariant to one that may follow it, and
a step is one of them. -/
theorem stepKeepsTheInvariant : Obligations.StepKeepsTheInvariant := by
  unfold Obligations.StepKeepsTheInvariant
  intro s t hi hstep
  obtain ⟨hinv, hparams⟩ := step_follows hi hstep
  exact ⟨hinv, hparams⟩

end Sys2Proof.Machine

namespace Sys2Proof.Machine

/-! ### CONT_NEXT's input

CONT_NEXT reads IBUF only through parse_frame, and only where CLEN bounds it (10_state.md R38, 43_container.md R194). -/

/-- parse_frame depends only on the bytes of its region (42_chunk.md R162). -/
theorem State.parseFrame_congr {s t : State} {a n : Nat}
    (h : ∀ x, a ≤ x → x < a + n → t.bufByte .ibuf x = s.bufByte .ibuf x) : t.parseFrame a n = s.parseFrame a n := by
  unfold State.parseFrame
  by_cases hshort : n < 12
  · rw [if_pos hshort, if_pos hshort]
  · rw [if_neg hshort, if_neg hshort]
    have hlen : t.be32At a = s.be32At a := State.be32At_congr fun x _ _ => h x (by omega) (by omega)
    dsimp only
    rw [hlen]
    by_cases hfits : n < 12 + (s.be32At a).toNat
    · rw [if_pos hfits, if_pos hfits]
    · have htype : t.be32At (a + 4) = s.be32At (a + 4) := State.be32At_congr fun x _ _ => h x (by omega) (by omega)
      have hcrc : t.be32At (a + 8 + (s.be32At a).toNat) = s.be32At (a + 8 + (s.be32At a).toNat) :=
        State.be32At_congr fun x _ _ => h x (by omega) (by omega)
      have htypeBytes : t.memRead (a + 4) 4 = s.memRead (a + 4) 4 :=
        State.memRead_congr fun x _ _ => h x (by omega) (by omega)
      have hdata : t.memRead (a + 8) (s.be32At a).toNat = s.memRead (a + 8) (s.be32At a).toNat :=
        State.memRead_congr fun x _ _ => h x (by omega) (by omega)
      rw [htype, hcrc, htypeBytes, hdata]

/-- What CONT_NEXT finds at CURSOR: parse_frame's answer on a frame that lies whole below CLEN (43_container.md R194). -/
def State.frameAtCursor (s : State) : FrameResult :=
  if s.clenN - s.cursorN < 12 then .err .truncated
  else if s.clenN - s.cursorN < 12 + (s.be32At s.cursorN).toNat then .err .truncated
  else s.parseFrame s.cursorN (12 + (s.be32At s.cursorN).toNat)

/-- What CONT_NEXT does with what it finds (43_container.md R194). -/
def takeFrame (s : State) : FrameResult → State × Ending
  | .err code => frameError s code
  | .ok l t c => (acceptFrame s l t c, .complete)

theorem contNextBody_eq_takeFrame {s : State} (ho : s.cstate = .opened) :
    contNextBody s = takeFrame s s.frameAtCursor := by
  unfold contNextBody State.frameAtCursor
  rw [if_neg (not_not.2 ho)]
  dsimp only
  split
  · rfl
  · split
    · rfl
    · cases s.parseFrame s.cursorN (12 + (s.be32At s.cursorN).toNat) with
      | ok l t c => rfl
      | err code => rfl

/-- The length field counts only when 12 bytes are left below CLEN, and the rest of the frame only when all of it lies there
(43_container.md R194). -/
theorem State.frameAtCursor_congr {s t : State} (hclen : t.clen = s.clen) (hcursor : t.cursor = s.cursor)
    (h : ∀ a, a < s.clenN → t.bufByte .ibuf a = s.bufByte .ibuf a) : t.frameAtCursor = s.frameAtCursor := by
  unfold State.frameAtCursor
  rw [State.clenN, State.cursorN, hclen, hcursor]
  by_cases hshort : s.clenN - s.cursorN < 12
  · rw [if_pos hshort, if_pos hshort]
  · have hlen : t.be32At s.cursorN = s.be32At s.cursorN := State.be32At_congr fun x _ _ => h x (by omega)
    rw [if_neg hshort, if_neg hshort, hlen]
    by_cases hcut : s.clenN - s.cursorN < 12 + (s.be32At s.cursorN).toNat
    · rw [if_pos hcut, if_pos hcut]
    · rw [if_neg hcut, if_neg hcut]
      exact State.parseFrame_congr (a := s.cursorN) fun x _ _ => h x (by omega)

/-- s with another IBUF and another IBUF_LEN. -/
def State.withInput (s : State) (m : Memory) (n : Word) : State := { s with ibuf := m, ibufLen := n }

/-- A completion (60_exceptions.md R224) does not touch the input. -/
theorem finish_withInput (r : State × Ending) (m : Memory) (n : Word) :
    finish (r.1.withInput m n, r.2) = (finish r).withInput m n := by
  match r with
  | (_, .complete) => rfl
  | (_, .raise _ _) => rfl

theorem takeFrame_withInput (s : State) (r : FrameResult) (m : Memory) (n : Word) :
    takeFrame (s.withInput m n) r = ((takeFrame s r).1.withInput m n, (takeFrame s r).2) := by
  cases r with
  | ok l t c => rfl
  | err code => rfl

/-- With another input that agrees below CLEN, CONT_NEXT's body writes and ends the same. -/
theorem contNextBody_withInput {s : State} {m : Memory} {n : Word}
    (h : ∀ a, a < s.clenN → (s.withInput m n).bufByte .ibuf a = s.bufByte .ibuf a) :
    contNextBody (s.withInput m n) = ((contNextBody s).1.withInput m n, (contNextBody s).2) := by
  by_cases ho : s.cstate = .opened
  · have hframe : (s.withInput m n).frameAtCursor = s.frameAtCursor := State.frameAtCursor_congr rfl rfl h
    rw [contNextBody_eq_takeFrame ho, contNextBody_eq_takeFrame (s := s.withInput m n) ho, hframe, takeFrame_withInput]
  · rw [contNextBody_closed ho, contNextBody_closed (s := s.withInput m n) ho]

/-- Settles O36: parse_frame, on a region that ends at or before CLEN, is all of IBUF that CONT_NEXT reads. -/
theorem contNextReadsOnlyBelowClen : Obligations.ContNextReadsOnlyBelowClen := by
  unfold Obligations.ContNextReadsOnlyBelowClen
  intro s t m n hagree hexec
  rw [exec_eq_finish] at hexec
  cases hexec
  have hbody := contNextBody_withInput (s := s) (m := m) (n := n) hagree
  calc exec .contNext (s.withInput m n)
      = .next (finish (contNextBody (s.withInput m n))) := exec_eq_finish .contNext _
    _ = .next ((finish (contNextBody s)).withInput m n) := by rw [hbody, finish_withInput]

/-! ### The step's order of events -/

/-- With a command in flight the engine's turn is that command (10_state.md R20, 20_memory.md R80). -/
theorem engineTurn_of_command {s : State} {w : Word} {i : Instr} (hr : s.inReset = false) (hp : s.pending = some w)
    (hd : decode w = .command i) : engineTurn s = exec i s := by
  simp [engineTurn, State.inFlight, hr, hp, hd]

theorem State.inFlight_of_idle {s : State} (h : s.busy = false) : s.inFlight = none := by
  rw [State.inFlight, Option.isNone_iff_eq_none.1 (Option.isSome_eq_false_iff.1 h), Option.map_none]

/-- With nothing in flight the engine's turn changes nothing (10_state.md R20). -/
theorem engineTurn_of_idle {s : State} (h : s.busy = false) : engineTurn s = .next s := by
  rw [engineTurn, State.inFlight_of_idle h, ite_self]

theorem step_of_no_event {s : State} (h : s.events = []) : step s = engineTurn s := by
  rw [step, nextMove, h]

theorem step_of_event {s : State} {e : Event} {rest : List Event} (h : s.events = e :: rest) :
    step s = takeEvent e { s with events := rest } := by
  rw [step, nextMove, h]

/-- Settles O4: by event or without one, the step is the engine's turn, and that is the pending command. -/
theorem stepRunsTheDecodedCommand : Obligations.StepRunsTheDecodedCommand := by
  unfold Obligations.StepRunsTheDecodedCommand
  intro s w i hr hp hd
  refine ⟨fun hnil => ?_, fun rest hcons => ?_⟩
  · rw [step_of_no_event hnil, engineTurn_of_command hr hp hd]
  · rw [step_of_event hcons]
    exact engineTurn_of_command (s := { s with events := rest }) hr hp hd

/-- Settles O6: the step takes the oldest event off, and each kind of event is one move. -/
theorem stepTakesTheOldestEvent : Obligations.StepTakesTheOldestEvent := by
  unfold Obligations.StepTakesTheOldestEvent
  refine ⟨?host, ?assert, ?release, fun s hidle => ⟨?empty, ?turn⟩⟩
  case host => exact fun s a rest h => step_of_event h
  case assert => exact fun s rest h => step_of_event h
  case release => exact fun s rest h => step_of_event h
  case empty => exact fun h => by rw [step_of_no_event h, engineTurn_of_idle hidle]
  case turn =>
    intro rest h
    rw [step_of_event h]
    exact engineTurn_of_idle (s := { s with events := rest }) hidle

/-! ### The register window -/

theorem State.readTarget_register_of_idle {s : State} (h : s.busy = false) (r : Reg) :
    s.readTarget (.register r) = s.respond (s.regValue r) := by
  simp [State.readTarget, h]

theorem State.writeTarget_register_of_idle {s : State} (h : s.busy = false) (v : Word) (r : Reg) :
    s.writeTarget v (.register r) = s.writeReg v r := by
  simp [State.writeTarget, h]

/-- STATUS and CTRL take a write idle or BUSY (20_memory.md R81). -/
theorem State.writeTarget_register_of_writableWhileBusy (s : State) (v : Word) {r : Reg}
    (h : r.writableWhileBusy = true) : s.writeTarget v (.register r) = s.writeReg v r := by
  simp [State.writeTarget, h]

/-- An idle aligned 32-bit read in the register window answers the register's value (10_state.md R24). -/
theorem State.read_register_of_idle {s : State} (hr : s.inReset = false) (hb : s.busy = false) {o : Nat}
    (ho : o < 0x1000) (ha : o % 4 = 0) :
    s.hostAccess (.read .w32 (s.hostAddr o)) = s.respond (s.regValue (regAt o)) := by
  rw [State.hostAccess_read s .w32 (by omega) hr, targetAt_register _ ho ha, State.readTarget_register_of_idle hb]

/-- An idle aligned 32-bit write in the register window is the register's write (10_state.md R24). -/
theorem State.write_register_of_idle {s : State} (hr : s.inReset = false) (hb : s.busy = false) {o : Nat}
    (ho : o < 0x1000) (ha : o % 4 = 0) (v : Word) :
    s.hostAccess (.write .w32 (s.hostAddr o) v) = s.writeReg v (regAt o) := by
  rw [State.hostAccess_write s .w32 v (by omega) hr, targetAt_register _ ho ha, State.writeTarget_register_of_idle hb]

theorem State.write_ctrl {s : State} (hr : s.inReset = false) (v : Word) :
    s.hostAccess (.write .w32 (s.hostAddr 0x008) v) = s.writeCtrl v := by
  rw [State.hostAccess_write s .w32 v (by omega) hr, targetAt_register _ (by omega) (by omega)]
  exact State.writeTarget_register_of_writableWhileBusy s v (r := .ctrl) rfl

theorem State.write_status {s : State} (hr : s.inReset = false) (v : Word) :
    s.hostAccess (.write .w32 (s.hostAddr 0x00C) v) = s.writeStatus v := by
  rw [State.hostAccess_write s .w32 v (by omega) hr, targetAt_register _ (by omega) (by omega)]
  exact State.writeTarget_register_of_writableWhileBusy s v (r := .status) rfl

/-- The offsets past the last register of 10_state.md R23 are reserved. -/
theorem regAt_reserved {o : Nat} (h : 0x064 ≤ o) : regAt o = .reserved := by
  unfold regAt
  split
  case h_26 => rfl
  all_goals omega

/-- The registers that a host write does not change: the read-only ones, and the reserved offsets (10_state.md R23, R24). -/
def Reg.ignoresWrites : Reg → Bool
  | .ctrl | .status | .cmd | .src | .len | .ibufLen | .optr | .crcAcc | .crcDin | .tag => false
  | _ => true

theorem State.writeReg_of_ignoresWrites (s : State) (v : Word) {r : Reg} (h : r.ignoresWrites = true) :
    s.writeReg v r = s := by
  cases r with
  | ctrl | status | cmd | src | len | ibufLen | optr | crcAcc | crcDin | tag => cases h
  | _ => rfl

/-- Settles O49: a write to a register that ignores writes is none, and every offset from 0x064 on is reserved. -/
theorem readOnlyAndReservedOffsets : Obligations.ReadOnlyAndReservedOffsets := by
  unfold Obligations.ReadOnlyAndReservedOffsets
  intro s v o hr hb ha ho
  refine ⟨fun hro => ?_, fun hres => ?_⟩
  · have hignores : (regAt o).ignoresWrites = true := by
      rcases hro with hlisted | hres
      · fin_cases hlisted <;> rfl
      · rw [regAt_reserved hres]; rfl
    rw [State.write_register_of_idle hr hb ho ha, State.writeReg_of_ignoresWrites s v hignores]
  · rw [State.read_register_of_idle hr hb ho ha, regAt_reserved hres]; rfl

/-- Settles O47: an AND with the complement of a bit is the clear where that bit is 1 (10_state.md R29). -/
theorem statusWriteClearsOnes : Obligations.StatusWriteClearsOnes := by
  unfold Obligations.StatusWriteClearsOnes
  intro s v hr
  have hclear (f b : Bool) : (f && !b) = if b then false else f := by cases b <;> simp
  rw [State.write_status hr, State.writeStatus, hclear, hclear, hclear]

/-- Settles O48: each offset is its register's in the map, and the register's write stores the word. -/
theorem registerWritesStore : Obligations.RegisterWritesStore := by
  unfold Obligations.RegisterWritesStore
  intro s v hr
  refine ⟨fun hb => ?_, fun hv => ?_⟩
  · have hwrite {o : Nat} (ho : o < 0x1000) (ha : o % 4 = 0) := State.write_register_of_idle hr hb ho ha v
    refine ⟨?_, ?_, ?_, ?_, ?_, ?_⟩ <;> exact hwrite (by omega) (by omega)
  · rw [State.write_ctrl hr, State.writeCtrl, if_neg (ne_true_of_eq_false hv)]

/-- Settles O45: the register map and the registers' values, row by row. -/
theorem idleRegisterReads : Obligations.IdleRegisterReads := by
  unfold Obligations.IdleRegisterReads
  intro s hr hb r hmem
  obtain ⟨ho, ha, hval⟩ : r.1 < 0x1000 ∧ r.1 % 4 = 0 ∧ s.regValue (regAt r.1) = r.2 := by
    fin_cases hmem <;> exact ⟨by simp, by simp, rfl⟩
  rw [State.read_register_of_idle hr hb ho ha, hval]
  rfl

/-! ### The STATUS word -/

/-- A flag stands at its bit and at no other. -/
theorem flagBit_getLsbD (f : Bool) {i : Nat} (hi : i < 32) (j : Nat) :
    (flagBit f i).getLsbD j = (f && decide (i = j)) := by
  have hone : (1#32 <<< i).getLsbD j = decide (i = j) := by
    rw [← BitVec.twoPow_eq, BitVec.getLsbD_twoPow, decide_eq_true hi, Bool.true_and]
  cases f with
  | false => exact BitVec.getLsbD_zero
  | true => exact hone

/-- STATUS bit by bit: six flags at [5:0], and CSTATE's number from bit 8 on (10_state.md R28). -/
theorem State.statusWord_getLsbD (s : State) (j : Nat) :
    s.statusWord.getLsbD j
      = (s.busy && decide (0 = j) || s.done && decide (1 = j) || s.errf && decide (2 = j) || s.endFlag && decide (3 = j)
        || s.wrBusy && decide (4 = j) || s.busErr && decide (5 = j) || (s.cstate.code <<< 8).getLsbD j) := by
  simp only [State.statusWord, BitVec.getLsbD_or, flagBit_getLsbD, Nat.reduceLT]

/-- CSTATE's number takes two bits (10_state.md R28). -/
theorem CState.code_getLsbD_of_ge (c : CState) {j : Nat} (h : 2 ≤ j) : c.code.getLsbD j = false := by
  have hlt : c.code.toNat < 2 ^ 2 := by cases c <;> decide
  exact Nat.testBit_lt_two_pow (hlt.trans_le (Nat.pow_le_pow_right (by decide) h))

/-- STATUS[9:8] is CSTATE's number (10_state.md R28). -/
theorem State.statusWord_cstate (s : State) : s.statusWord.extractLsb' 8 2 = s.cstate.code.setWidth 2 := by
  apply BitVec.eq_of_getLsbD_eq
  intro j hj
  rw [BitVec.getLsbD_extractLsb', BitVec.getLsbD_setWidth, State.statusWord_getLsbD]
  interval_cases j <;> simp

/-- Settles O46: STATUS bit by bit, and CSTATE's number at [9:8]. -/
theorem statusBits : Obligations.StatusBits := by
  unfold Obligations.StatusBits
  intro s
  refine ⟨?busy, ?done, ?errf, ?ended, ?wrBusy, ?busErr, ?bit6, ?bit7, ?cstate, ?upper⟩
  case cstate =>
    rw [State.statusWord_cstate]
    cases s.cstate <;> rfl
  case upper =>
    intro j hj
    have hcode : (s.cstate.code <<< 8).getLsbD j = false := by
      rw [BitVec.getLsbD_shiftLeft, CState.code_getLsbD_of_ge _ (by omega), Bool.and_false]
    have hflag (i : Nat) (hi : i < 10) : decide (i = j) = false := decide_eq_false (by omega)
    rw [State.statusWord_getLsbD, hcode]
    simp [hflag]
  all_goals
    rw [State.statusWord_getLsbD]
    simp [State.busy, State.errf, State.endFlag]

/-! ### A command in flight is out of the host's reach -/

/-- What a host read can do: answer, set BUS_ERR, and count a free draw (20_memory.md R76, R79; logs 2 and 4). -/
theorem State.readTarget_eq (s : State) (g : Target) :
    ∃ (e : Bool) (v : Word) (n : Nat),
      s.readTarget g = { s with busErr := e, responses := v :: s.responses, draws := n } := by
  cases g with
  | busError => exact ⟨_, _, _, rfl⟩
  | register r => rw [State.readTarget]; split <;> exact ⟨_, _, _, rfl⟩
  | byte b a =>
    cases b with
    | ibuf => exact ⟨_, _, _, rfl⟩
    | obuf => rw [State.readTarget]; split <;> exact ⟨_, _, _, rfl⟩
  | word b a =>
    cases b with
    | ibuf => exact ⟨_, _, _, rfl⟩
    | obuf => rw [State.readTarget]; split <;> exact ⟨_, _, _, rfl⟩

/-- t differs from s at most in what the host may touch while a command runs: IE, the bits of STATUS that it may set or clear,
and the model's own records of reads (10_state.md R45, 20_memory.md R81). -/
def State.CommandFrozen (s t : State) : Prop :=
  ∃ (ie done wrBusy busErr : Bool) (responses : List Word) (draws : Nat),
    t = { s with ie := ie, done := done, wrBusy := wrBusy, busErr := busErr, responses := responses, draws := draws }

theorem State.CommandFrozen.refl (s : State) : s.CommandFrozen s := ⟨_, _, _, _, _, _, rfl⟩

theorem State.commandFrozen_readTarget (s : State) (g : Target) : s.CommandFrozen (s.readTarget g) := by
  obtain ⟨e, v, n, h⟩ := s.readTarget_eq g
  exact ⟨_, _, _, _, _, _, h⟩

theorem State.commandFrozen_dropWrite (s : State) : s.CommandFrozen s.dropWrite := ⟨_, _, _, _, _, _, rfl⟩

/-- Of the register writes that are taken while BUSY, only CTRL's SOFT_RESET reaches the command (20_memory.md R81). -/
theorem State.commandFrozen_writeReg (s : State) {v : Word} {r : Reg} (hw : r.writableWhileBusy = true)
    (hctrl : r = .ctrl → v.getLsbD 1 = false) : s.CommandFrozen (s.writeReg v r) := by
  cases r with
  | ctrl =>
    rw [State.writeReg, State.writeCtrl, if_neg (ne_true_of_eq_false (hctrl rfl))]
    exact ⟨_, _, _, _, _, _, rfl⟩
  | status => exact ⟨_, _, _, _, _, _, rfl⟩
  | _ => cases hw

/-- While BUSY a write is a bus error, dropped, or one of STATUS and CTRL (20_memory.md R76, R81). -/
theorem State.commandFrozen_writeTarget {s : State} (hb : s.busy = true) {v : Word} {g : Target}
    (hctrl : g = .register .ctrl → v.getLsbD 1 = false) : s.CommandFrozen (s.writeTarget v g) := by
  cases g with
  | busError => exact ⟨_, _, _, _, _, _, rfl⟩
  | register r =>
    simp only [State.writeTarget, hb, Bool.true_and]
    split
    · exact s.commandFrozen_dropWrite
    · next hw => exact s.commandFrozen_writeReg (by simpa using hw) fun h => hctrl (h ▸ rfl)
  | byte b a =>
    rw [State.writeTarget, if_pos hb]
    exact s.commandFrozen_dropWrite
  | word b a =>
    rw [State.writeTarget, if_pos hb]
    exact s.commandFrozen_dropWrite

theorem regAt_eq_ctrl {o : Nat} (h : regAt o = .ctrl) : o = 0x008 := by
  unfold regAt at h
  split at h
  case h_3 => rfl
  all_goals cases h

theorem bufTarget_ne_register (p : Params) (b : BufId) (w : Width) (a : Nat) (r : Reg) :
    bufTarget p b w a ≠ .register r := by
  cases w with
  | w8 | w32 => rw [bufTarget]; split <;> nofun
  | w16 | other => nofun

/-- Only an aligned 32-bit access in the register window reaches a register (20_memory.md R74). -/
theorem targetAt_eq_register {p : Params} {w : Width} {o : Nat} {r : Reg} (h : targetAt p w o = .register r) :
    w = .w32 ∧ regAt o = r := by
  unfold targetAt at h
  split at h
  · split at h
    · next haligned => cases h; exact ⟨haligned.1, rfl⟩
    · cases h
  · split at h
    · cases h
    · split at h <;> exact (bufTarget_ne_register _ _ _ _ _ h).elim

/-- Every host address is that of an offset in the region, or outside it (20_memory.md R73). -/
theorem State.hostAddr_or_outside (s : State) (addr : Nat) :
    (∃ o, o < 0x03000000 ∧ addr = s.hostAddr o) ∨ addr < s.params.base ∨ s.params.base + 0x03000000 ≤ addr := by
  by_cases hin : s.params.base ≤ addr ∧ addr < s.params.base + 0x03000000
  · exact .inl ⟨addr - s.params.base, by omega, by unfold State.hostAddr; omega⟩
  · exact .inr (by omega)

/-- The framer decodes no address outside its region (20_memory.md R73; log 12). -/
theorem State.hostAccess_outside (s : State) {addr : Nat}
    (h : addr < s.params.base ∨ s.params.base + 0x03000000 ≤ addr) (w : Width) :
    s.hostAccess (.read w addr) = s ∧ ∀ v, s.hostAccess (.write w addr v) = s := by
  simp only [State.hostAccess, regionOffset_outside s h, implies_true, and_self]

/-- Settles O55: an access outside the region or a read is harmless, and a write leaves the command frozen unless it is the
soft reset. -/
theorem busyFreezesTheCommand : Obligations.BusyFreezesTheCommand := by
  unfold Obligations.BusyFreezesTheCommand
  intro s a hr hb hsoft
  suffices hfrozen : s.CommandFrozen (s.hostAccess a) from hfrozen
  cases a with
  | read w addr =>
    rcases s.hostAddr_or_outside addr with ⟨o, ho, rfl⟩ | hout
    · rw [State.hostAccess_read s w ho hr]
      exact s.commandFrozen_readTarget _
    · rw [(s.hostAccess_outside hout w).1]
      exact State.CommandFrozen.refl s
  | write w addr v =>
    rcases s.hostAddr_or_outside addr with ⟨o, ho, rfl⟩ | hout
    · rw [State.hostAccess_write s w v ho hr]
      refine State.commandFrozen_writeTarget hb fun htarget => Bool.eq_false_iff.2 fun hv => ?_
      obtain ⟨rfl, hreg⟩ := targetAt_eq_register htarget
      obtain rfl := regAt_eq_ctrl hreg
      exact hsoft v hv rfl
    · rw [(s.hostAccess_outside hout w).2 v]
      exact State.CommandFrozen.refl s

end Sys2Proof.Machine

namespace Sys2Proof.Machine

/-! ### Commands and OBUF

The engine never reads OBUF (20_memory.md R72): replacing OBUF before a command is replacing it after the command's body, up
to the bytes that the body stores. One such law per body gives both the independence and what a body leaves in OBUF. -/

/-- s with another OBUF. -/
def State.withObuf (s : State) (m : Memory) : State := { s with obuf := m }

/-- The end of a command's body with another OBUF. -/
def bodyWithObuf (m : Memory) (r : State × Ending) : State × Ending := (r.1.withObuf m, r.2)

theorem State.memRead_withObuf (s : State) (m : Memory) (a n : Nat) : (s.withObuf m).memRead a n = s.memRead a n :=
  State.memRead_congr fun _ _ _ => rfl

theorem State.parseFrame_withObuf (s : State) (m : Memory) (a n : Nat) :
    (s.withObuf m).parseFrame a n = s.parseFrame a n :=
  State.parseFrame_congr fun _ _ _ => rfl

theorem State.srcN_withObuf (s : State) (m : Memory) : (s.withObuf m).srcN = s.srcN := rfl

theorem State.lenN_withObuf (s : State) (m : Memory) : (s.withObuf m).lenN = s.lenN := rfl

theorem State.newFrame_withObuf (s : State) (m : Memory) : (s.withObuf m).newFrame = s.newFrame := by
  unfold State.newFrame
  rw [State.memRead_withObuf, State.memRead_withObuf]
  rfl

/-- A completion (60_exceptions.md R224) does not touch OBUF. -/
theorem finish_bodyWithObuf (m : Memory) (r : State × Ending) : finish (bodyWithObuf m r) = (finish r).withObuf m := by
  match r with
  | (_, .complete) => rfl
  | (_, .raise _ _) => rfl

theorem crcRangeBody_withObuf (s : State) (m : Memory) :
    crcRangeBody (s.withObuf m) = bodyWithObuf m (crcRangeBody s) := by
  unfold crcRangeBody
  rw [State.memRead_withObuf, apply_ite (bodyWithObuf m)]
  rfl

theorem tagLoadTextBody_withObuf (s : State) (m : Memory) :
    tagLoadTextBody (s.withObuf m) = bodyWithObuf m (tagLoadTextBody s) := by
  unfold tagLoadTextBody
  simp only [apply_ite (bodyWithObuf m)]
  rfl

theorem tagLoadBytesBody_withObuf (s : State) (m : Memory) :
    tagLoadBytesBody (s.withObuf m) = bodyWithObuf m (tagLoadBytesBody s) := by
  unfold tagLoadBytesBody
  rw [apply_ite (bodyWithObuf m)]
  rfl

theorem chunkVerifyBody_withObuf (s : State) (m : Memory) :
    chunkVerifyBody (s.withObuf m) = bodyWithObuf m (chunkVerifyBody s) := by
  unfold chunkVerifyBody
  rw [State.parseFrame_withObuf, State.srcN_withObuf, State.lenN_withObuf, apply_ite (bodyWithObuf m)]
  cases s.parseFrame s.srcN s.lenN with
  | ok l t c => rfl
  | err code => rfl

theorem contBeginBody_withObuf (s : State) (m : Memory) :
    contBeginBody (s.withObuf m) = bodyWithObuf m (contBeginBody s) := by
  unfold contBeginBody
  simp only [apply_ite (bodyWithObuf m)]
  rfl

theorem contNextBody_withObuf (s : State) (m : Memory) :
    contNextBody (s.withObuf m) = bodyWithObuf m (contNextBody s) := by
  by_cases ho : s.cstate = .opened
  · have hframe : (s.withObuf m).frameAtCursor = s.frameAtCursor := State.frameAtCursor_congr rfl rfl fun _ _ => rfl
    rw [contNextBody_eq_takeFrame ho, contNextBody_eq_takeFrame (s := s.withObuf m) ho, hframe]
    cases s.frameAtCursor with
    | ok l t c => rfl
    | err code => rfl
  · rw [contNextBody_closed ho, contNextBody_closed (s := s.withObuf m) ho]
    rfl

theorem verifyLoop_withObuf (fuel : Nat) (s : State) (m : Memory) :
    verifyLoop fuel (s.withObuf m) = bodyWithObuf m (verifyLoop fuel s) := by
  induction fuel generalizing s with
  | zero => rfl
  | succ fuel ih =>
    by_cases ho : s.cstate = .opened
    · rw [verifyLoop, verifyLoop, if_pos ho, if_pos (show (s.withObuf m).cstate = .opened from ho),
        contNextBody_withObuf]
      match contNextBody s with
      | (t, .complete) => exact ih t
      | (_, .raise _ _) => rfl
    · rw [verifyLoop, verifyLoop, if_neg ho, if_neg (show (s.withObuf m).cstate ≠ .opened from ho)]
      rfl

theorem contVerifyBody_withObuf (s : State) (m : Memory) :
    contVerifyBody (s.withObuf m) = bodyWithObuf m (contVerifyBody s) := by
  unfold contVerifyBody
  rw [contBeginBody_withObuf]
  match contBeginBody s with
  | (t, .complete) => exact verifyLoop_withObuf t.verifyFuel t m
  | (_, .raise _ _) => rfl

theorem chunkNewBody_withObuf (s : State) (m : Memory) :
    chunkNewBody (s.withObuf m) = bodyWithObuf (m.storeBytes s.optrN (s.obufWrite .chunkNew)) (chunkNewBody s) := by
  unfold chunkNewBody State.obufWrite
  rw [State.newFrame_withObuf, State.memRead_withObuf, State.memRead_withObuf]
  by_cases hfits : s.newFrameFits
  · have hfits' : (s.withObuf m).newFrameFits := hfits
    rw [if_pos hfits, if_pos hfits', if_pos hfits]
    rfl
  · have hfits' : ¬ (s.withObuf m).newFrameFits := hfits
    rw [if_neg hfits, if_neg hfits', if_neg hfits]
    rfl

theorem sigEmitBody_withObuf (s : State) (m : Memory) :
    sigEmitBody (s.withObuf m) = bodyWithObuf (m.storeBytes s.optrN (s.obufWrite .sigEmit)) (sigEmitBody s) := by
  unfold sigEmitBody State.obufWrite
  by_cases hfits : s.inRange s.optrN 8
  · have hfits' : (s.withObuf m).inRange (s.withObuf m).optrN 8 := hfits
    rw [if_pos hfits, if_pos hfits', if_pos hfits]
    rfl
  · have hfits' : ¬ (s.withObuf m).inRange (s.withObuf m).optrN 8 := hfits
    rw [if_neg hfits, if_neg hfits', if_neg hfits]
    rfl

/-- From any OBUF a command's body does the same, and stores the same bytes at the same place in it. -/
theorem commandBody_withObuf (i : Instr) (s : State) (m : Memory) :
    commandBody i (s.withObuf m) = bodyWithObuf (m.storeBytes s.optrN (s.obufWrite i)) (commandBody i s) := by
  cases i with
  | nop | crcInit => rfl
  | crcRange => exact crcRangeBody_withObuf s m
  | tagLoadText => exact tagLoadTextBody_withObuf s m
  | tagLoadBytes => exact tagLoadBytesBody_withObuf s m
  | chunkNew => exact chunkNewBody_withObuf s m
  | chunkVerify => exact chunkVerifyBody_withObuf s m
  | contBegin => exact contBeginBody_withObuf s m
  | contNext => exact contNextBody_withObuf s m
  | contVerify => exact contVerifyBody_withObuf s m
  | sigEmit => exact sigEmitBody_withObuf s m

/-- From another OBUF a command leads to the same state but for OBUF, where it stores the same bytes at the same place. -/
theorem exec_withObuf {i : Instr} {s t : State} (h : exec i s = .next t) (m : Memory) :
    exec i (s.withObuf m) = .next (t.withObuf (m.storeBytes s.optrN (s.obufWrite i))) := by
  rw [exec_eq_finish] at h ⊢
  cases h
  rw [commandBody_withObuf, finish_bodyWithObuf]

/-- What a command leaves in OBUF: replacing OBUF by itself is no change. -/
theorem exec_obuf {i : Instr} {s t : State} (h : exec i s = .next t) :
    t.obuf = s.obuf.storeBytes s.optrN (s.obufWrite i) := by
  have hself : exec i s = .next (t.withObuf (s.obuf.storeBytes s.optrN (s.obufWrite i))) := exec_withObuf h s.obuf
  rw [h] at hself
  injection hself with hself
  exact congrArg State.obuf hself

/-! ### What no command touches -/

theorem State.HostSideSame.refl (s : State) : s.HostSideSame s :=
  ⟨rfl, rfl, rfl, rfl, rfl, rfl, fun _ => rfl, rfl, rfl, rfl, rfl, rfl, rfl⟩

theorem State.HostSideSame.trans {s t u : State} (hst : s.HostSideSame t) (htu : t.HostSideSame u) :
    s.HostSideSame u where
  ie := htu.ie.trans hst.ie
  wrBusy := htu.wrBusy.trans hst.wrBusy
  busErr := htu.busErr.trans hst.busErr
  src := htu.src.trans hst.src
  len := htu.len.trans hst.len
  ibufLen := htu.ibufLen.trans hst.ibufLen
  ibufByte a := (htu.ibufByte a).trans (hst.ibufByte a)
  inReset := htu.inReset.trans hst.inReset
  params := htu.params.trans hst.params
  events := htu.events.trans hst.events
  responses := htu.responses.trans hst.responses
  draws := htu.draws.trans hst.draws
  epoch := htu.epoch.trans hst.epoch

/-- A completion (60_exceptions.md R224) leaves the host's side alone. -/
theorem State.HostSideSame.finish {s : State} {r : State × Ending} (h : s.HostSideSame r.1) :
    s.HostSideSame (finish r) := by
  match r, h with
  | (_, .complete), h => exact { h with }
  | (_, .raise _ _), h => exact { h with }

theorem contBeginBody_hostSideSame (s : State) : s.HostSideSame (contBeginBody s).1 := by
  rcases contBeginBody_cases s with ⟨-, e⟩ | ⟨-, -, e⟩ | ⟨-, -, -, e⟩ <;> rw [e] <;>
    exact { State.HostSideSame.refl s with }

theorem contNextBody_hostSideSame (s : State) : s.HostSideSame (contNextBody s).1 := by
  by_cases ho : s.cstate = .opened
  · rw [contNextBody_eq_takeFrame ho]
    cases s.frameAtCursor with
    | ok l t c => exact { State.HostSideSame.refl s with }
    | err code => exact { State.HostSideSame.refl s with }
  · rw [contNextBody_closed ho]
    exact State.HostSideSame.refl s

/-- CONT_VERIFY is made of the bodies of CONT_BEGIN and CONT_NEXT (43_container.md R195). -/
theorem contVerifyBody_hostSideSame (s : State) : s.HostSideSame (contVerifyBody s).1 := by
  have hnext {u : State} {r : State × Ending} (hu : s.HostSideSame u) (e : contNextBody u = r) : s.HostSideSame r.1 :=
    e ▸ hu.trans (contNextBody_hostSideSame u)
  have hbegin {r : State × Ending} (e : contBeginBody s = r) : s.HostSideSame r.1 := e ▸ contBeginBody_hostSideSame s
  refine contVerifyBody_rule (P := s.HostSideSame) (Q := fun r => s.HostSideSame r.1) ?begin_fails ?begins ?pass ?fail ?stop
  case begin_fails => exact fun _ _ _ e => hbegin e
  case begins => exact fun _ e => hbegin e
  case pass => exact fun _ _ hu _ e => hnext hu e
  case fail => exact fun _ _ _ _ hu _ e => hnext hu e
  case stop => exact fun _ hu _ => hu

theorem commandBody_hostSideSame (i : Instr) (s : State) : s.HostSideSame (commandBody i s).1 := by
  have hrefl := State.HostSideSame.refl s
  cases i with
  | nop => exact hrefl
  | crcInit => exact { hrefl with }
  | crcRange =>
    rw [commandBody, crcRangeBody]
    split
    · exact { hrefl with }
    · exact hrefl
  | tagLoadText =>
    rw [commandBody, tagLoadTextBody]
    split
    · split
      · exact hrefl
      · split
        · exact { hrefl with }
        · exact hrefl
    · exact hrefl
  | tagLoadBytes =>
    rw [commandBody, tagLoadBytesBody]
    split
    · exact { hrefl with }
    · exact hrefl
  | chunkNew =>
    rw [commandBody, chunkNewBody]
    split
    · exact { hrefl with }
    · exact hrefl
  | chunkVerify =>
    rw [commandBody, chunkVerifyBody]
    split
    · split
      · exact hrefl
      · exact { hrefl with }
    · exact hrefl
  | contBegin => exact contBeginBody_hostSideSame s
  | contNext => exact contNextBody_hostSideSame s
  | contVerify => exact contVerifyBody_hostSideSame s
  | sigEmit =>
    rw [commandBody, sigEmitBody]
    split
    · exact { hrefl with }
    · exact hrefl

/-- No command touches the host's side of the framer (20_memory.md R71, 30_encoding.md R101). -/
theorem exec_hostSideSame {i : Instr} {s t : State} (h : exec i s = .next t) : s.HostSideSame t := by
  rw [exec_eq_finish] at h
  cases h
  exact (commandBody_hostSideSame i s).finish

/-! ### The bytes of a buffer -/

/-- The written bytes of a buffer. -/
def State.buf (s : State) : BufId → Memory
  | .ibuf => s.ibuf
  | .obuf => s.obuf

theorem State.bufByte_eq (s : State) (b : BufId) (a : Nat) :
    s.bufByte b a = ((s.buf b).byteAt a).getD (Config.initialByte b s.epoch a) := by
  cases b <;> rfl

/-- A byte that is written, or not written, alike since the same hardware reset reads alike (20_memory.md R88). -/
theorem State.bufByte_congr {s t : State} {b : BufId} {a : Nat} (hepoch : t.epoch = s.epoch)
    (h : (t.buf b).byteAt a = (s.buf b).byteAt a) : t.bufByte b a = s.bufByte b a := by
  rw [State.bufByte_eq, State.bufByte_eq, hepoch, h]

/-- The same bytes stored at the same place in two memories: a byte is outside them, or reads the same in both. -/
theorem Memory.byteAt_storeBytes_kept_or_same (m n : Memory) (a x : Nat) (bs : List Byte) :
    ((m.storeBytes a bs).byteAt x = m.byteAt x ∧ (n.storeBytes a bs).byteAt x = n.byteAt x)
    ∨ (n.storeBytes a bs).byteAt x = (m.storeBytes a bs).byteAt x := by
  by_cases hout : x < a ∨ a + bs.length ≤ x
  · exact .inl ⟨Memory.byteAt_storeBytes_outside hout, Memory.byteAt_storeBytes_outside hout⟩
  · obtain ⟨i, rfl⟩ : ∃ i, x = a + i := ⟨x - a, by omega⟩
    have hi : i < bs.length := by omega
    exact .inr (by rw [Memory.byteAt_storeBytes_inside hi, Memory.byteAt_storeBytes_inside hi])

/-- Settles O42: with another OBUF a command stores the same bytes at the same place, and is the same in all else. -/
theorem commandsNeverReadObuf : Obligations.CommandsNeverReadObuf := by
  unfold Obligations.CommandsNeverReadObuf
  intro i s t u m ht hu
  have hother : exec i { s with obuf := m } = .next (t.withObuf (m.storeBytes s.optrN (s.obufWrite i))) :=
    exec_withObuf ht m
  rw [hu] at hother
  cases hother
  refine ⟨rfl, fun a => ?_⟩
  have hepoch : t.epoch = s.epoch := (exec_hostSideSame ht).epoch
  have hstored := Memory.byteAt_storeBytes_kept_or_same s.obuf m s.optrN a (s.obufWrite i)
  rw [← exec_obuf ht] at hstored
  rcases hstored with ⟨hs, hm⟩ | hsame
  · exact .inl ⟨State.bufByte_congr hepoch hs, State.bufByte_congr hepoch hm⟩
  · exact .inr (State.bufByte_congr rfl hsame)

/-! ### Illegal accesses, legal reads, and writes while BUSY -/

/-- Settles O50: the illegal accesses are those that reach the bus error, and none is decoded outside the region. -/
theorem illegalAccessesAreBusErrors : Obligations.IllegalAccessesAreBusErrors := by
  unfold Obligations.IllegalAccessesAreBusErrors
  intro s w v hr hp
  refine ⟨fun o ho hillegal => ?_, fun a hout => ?_⟩
  · have htarget := (targetAt_eq_busError_iff hp w ho).2 hillegal
    rw [State.hostAccess_read s w ho hr, State.hostAccess_write s w v ho hr, htarget]
    exact ⟨rfl, rfl⟩
  · obtain ⟨hread, hwrite⟩ := s.hostAccess_outside hout w
    exact ⟨hread, hwrite v⟩

/-- t differs from s by the answer to one host read, exact or drawn (20_memory.md R79; logs 2 and 4). -/
def State.Answered (s t : State) : Prop :=
  ∃ (v : Word) (n : Nat), t = { s with responses := v :: s.responses, draws := n }

theorem State.answered_respond (s : State) (v : Word) : s.Answered (s.respond v) := ⟨_, _, rfl⟩

theorem State.answered_respondFree (s : State) : s.Answered s.respondFree := ⟨_, _, rfl⟩

theorem State.answered_respondFreeByte (s : State) : s.Answered s.respondFreeByte := ⟨_, _, rfl⟩

/-- A read that is no bus error only answers (20_memory.md R79). -/
theorem State.answered_readTarget (s : State) {g : Target} (hg : g ≠ .busError) : s.Answered (s.readTarget g) := by
  cases g with
  | busError => exact absurd rfl hg
  | register r =>
    rw [State.readTarget]
    split
    · exact s.answered_respondFree
    · exact s.answered_respond _
  | byte b a =>
    cases b with
    | ibuf => exact s.answered_respond _
    | obuf =>
      rw [State.readTarget]
      split
      · exact s.answered_respondFreeByte
      · exact s.answered_respond _
  | word b a =>
    cases b with
    | ibuf => exact s.answered_respond _
    | obuf =>
      rw [State.readTarget]
      split
      · exact s.answered_respondFree
      · exact s.answered_respond _

theorem targetAt_ne_busError {p : Params} (hp : p.wf = true) {w : Width} {o : Nat} (ho : o < 0x03000000)
    (hl : legalAccess p w o) : targetAt p w o ≠ .busError :=
  fun h => (targetAt_eq_busError_iff hp w ho).1 h hl

/-- While the reset input is asserted a read in the region answers a free value (70_reset_and_hazards.md R250). -/
theorem State.hostAccess_read_inReset (s : State) {o : Nat} (w : Width) (ho : o < 0x03000000) (hr : s.inReset = true) :
    s.hostAccess (.read w (s.hostAddr o)) = s.respondFree := by
  simp only [State.hostAccess, regionOffset_hostAddr s ho, hr, if_true]

/-- Settles O51: in reset a read answers a free value, and else what it reaches answers. -/
theorem legalReadsHaveNoSideEffects : Obligations.LegalReadsHaveNoSideEffects := by
  unfold Obligations.LegalReadsHaveNoSideEffects
  intro s w o hp ho hl
  suffices hanswered : s.Answered (s.hostAccess (.read w (s.hostAddr o))) from hanswered
  by_cases hr : s.inReset = true
  · rw [State.hostAccess_read_inReset s w ho hr]
    exact s.answered_respondFree
  · rw [State.hostAccess_read s w ho (Bool.eq_false_iff.2 hr)]
    exact s.answered_readTarget (targetAt_ne_busError hp ho hl)

theorem regAt_eq_status {o : Nat} (h : regAt o = .status) : o = 0x00C := by
  unfold regAt at h
  split at h
  case h_4 => rfl
  all_goals cases h

theorem Reg.writableWhileBusy_iff (r : Reg) : r.writableWhileBusy = true ↔ r = .status ∨ r = .ctrl := by
  cases r <;> decide

/-- While BUSY a write to anything but STATUS and CTRL is dropped (20_memory.md R81). -/
theorem State.writeTarget_of_busy {s : State} (hb : s.busy = true) (v : Word) {g : Target} (hg : g ≠ .busError)
    (hstatus : g ≠ .register .status) (hctrl : g ≠ .register .ctrl) : s.writeTarget v g = s.dropWrite := by
  cases g with
  | busError => exact absurd rfl hg
  | register r =>
    have hr : r.writableWhileBusy = false := by
      rw [Bool.eq_false_iff, Ne, Reg.writableWhileBusy_iff]
      rintro (rfl | rfl)
      · exact hstatus rfl
      · exact hctrl rfl
    simp [State.writeTarget, hb, hr]
  | byte b a => rw [State.writeTarget, if_pos hb]
  | word b a => rw [State.writeTarget, if_pos hb]

/-- Settles O53: a legal write reaches a target, and STATUS and CTRL only at their own offsets. -/
theorem busyWritesAreDropped : Obligations.BusyWritesAreDropped := by
  unfold Obligations.BusyWritesAreDropped
  intro s w o v hr hb hp ho hl hctrl hstatus
  rw [State.hostAccess_write s w v ho hr]
  exact State.writeTarget_of_busy hb v (targetAt_ne_busError hp ho hl)
    (fun h => hstatus (regAt_eq_status (targetAt_eq_register h).2))
    (fun h => hctrl (regAt_eq_ctrl (targetAt_eq_register h).2))

/-! ### The buffer windows -/

/-- A word whose lowest byte is b0, as 20_memory.md R75 writes it. -/
theorem be32_eq_or (b0 b1 b2 b3 : Byte) :
    be32 b3 b2 b1 b0
      = b0.setWidth 32 ||| b1.setWidth 32 <<< 8 ||| b2.setWidth 32 <<< 16 ||| b3.setWidth 32 <<< 24 := by
  rw [be32, BitVec.or_comm _ (b0.setWidth 32), BitVec.or_comm _ (b1.setWidth 32 <<< 8),
    BitVec.or_comm _ (b2.setWidth 32 <<< 16), ← BitVec.or_assoc, ← BitVec.or_assoc]

theorem State.leWordAt_eq (s : State) (b : BufId) (a : Nat) :
    s.leWordAt b a = (s.bufByte b a).setWidth 32 ||| (s.bufByte b (a + 1)).setWidth 32 <<< 8
      ||| (s.bufByte b (a + 2)).setWidth 32 <<< 16 ||| (s.bufByte b (a + 3)).setWidth 32 <<< 24 :=
  be32_eq_or ..

theorem State.readTarget_byte_of_idle {s : State} (hb : s.busy = false) (b : BufId) (a : Nat) :
    s.readTarget (.byte b a) = s.respond ((s.bufByte b a).setWidth 32) := by
  cases b with
  | ibuf => rfl
  | obuf => simp [State.readTarget, hb]

theorem State.readTarget_word_of_idle {s : State} (hb : s.busy = false) (b : BufId) (a : Nat) :
    s.readTarget (.word b a) = s.respond (s.leWordAt b a) := by
  cases b with
  | ibuf => rfl
  | obuf => simp [State.readTarget, hb]

theorem State.writeTarget_byte_of_idle {s : State} (hb : s.busy = false) (v : Word) (b : BufId) (a : Nat) :
    s.writeTarget v (.byte b a) = s.bufStore b a [v.setWidth 8] := by
  simp [State.writeTarget, hb]

theorem State.writeTarget_word_of_idle {s : State} (hb : s.busy = false) (v : Word) (b : BufId) (a : Nat) :
    s.writeTarget v (.word b a) = s.bufStore b a (bytesLE32 v) := by
  simp [State.writeTarget, hb]

theorem State.bufStore_epoch (s : State) (b : BufId) (a : Nat) (bs : List Byte) :
    (s.bufStore b a bs).epoch = s.epoch := by
  cases b <;> rfl

theorem State.buf_bufStore_same (s : State) (b : BufId) (a : Nat) (bs : List Byte) :
    (s.bufStore b a bs).buf b = (s.buf b).storeBytes a bs := by
  cases b <;> rfl

theorem State.buf_bufStore_other (s : State) {b c : BufId} (h : c ≠ b) (a : Nat) (bs : List Byte) :
    (s.bufStore b a bs).buf c = s.buf c := by
  cases b with
  | ibuf =>
    cases c with
    | ibuf => exact absurd rfl h
    | obuf => rfl
  | obuf =>
    cases c with
    | ibuf => rfl
    | obuf => exact absurd rfl h

theorem State.bufByte_bufStore_inside (s : State) (b : BufId) (a : Nat) {bs : List Byte} {i : Nat} (h : i < bs.length) :
    (s.bufStore b a bs).bufByte b (a + i) = bs[i] := by
  rw [State.bufByte_eq, State.buf_bufStore_same, Memory.byteAt_storeBytes_inside h, Option.getD_some]

theorem State.bufByte_bufStore_outside (s : State) {b c : BufId} {a x : Nat} {bs : List Byte}
    (h : c ≠ b ∨ x < a ∨ a + bs.length ≤ x) : (s.bufStore b a bs).bufByte c x = s.bufByte c x := by
  refine State.bufByte_congr (s.bufStore_epoch b a bs) ?_
  by_cases hc : c = b
  · subst hc
    rw [State.buf_bufStore_same, Memory.byteAt_storeBytes_outside (h.resolve_left (not_not.2 rfl))]
  · rw [State.buf_bufStore_other s hc]

/-- A store into a buffer changes nothing but the buffers. -/
theorem State.bufStore_frame (s : State) (b : BufId) (a : Nat) (bs : List Byte) :
    { s with ibuf := (s.bufStore b a bs).ibuf, obuf := (s.bufStore b a bs).obuf } = s.bufStore b a bs := by
  cases b <;> rfl

theorem bytesLE32_getElem (v : Word) {k : Nat} (h : k < (bytesLE32 v).length) :
    (bytesLE32 v)[k] = v.extractLsb' (8 * k) 8 := by
  have hk : k < 4 := h
  interval_cases k <;> rfl

/-- Settles O52: an idle access to a buffer window reaches its bytes, and a write is a store of the word's bytes, lowest
first, or of its low byte. -/
theorem bufferAccessesMoveTheirBytes : Obligations.BufferAccessesMoveTheirBytes := by
  unfold Obligations.BufferAccessesMoveTheirBytes
  intro s b base a v hr hb hp hw
  have hsize := (bufSize_legal hp).2
  refine ⟨fun ha hin => ?word, fun hin => ?byte⟩
  case word =>
    have ho : base + a < 0x03000000 := by omega
    rw [State.hostAccess_read s _ ho hr, State.hostAccess_write s _ v ho hr, targetAt_word hp hw ha hin,
      State.readTarget_word_of_idle hb, State.writeTarget_word_of_idle hb, State.leWordAt_eq]
    refine ⟨rfl, ?_⟩
    rintro t rfl
    refine ⟨fun k hk => ?_, fun c x hout => ?_, s.bufStore_frame b a _⟩
    · have hk' : k < (bytesLE32 v).length := hk
      rw [State.bufByte_bufStore_inside s b a hk', bytesLE32_getElem]
    · exact s.bufByte_bufStore_outside hout
  case byte =>
    have ho : base + a < 0x03000000 := by omega
    rw [State.hostAccess_read s _ ho hr, State.hostAccess_write s _ v ho hr, targetAt_byte hp hw hin,
      State.readTarget_byte_of_idle hb, State.writeTarget_byte_of_idle hb]
    refine ⟨rfl, ?_⟩
    rintro t rfl
    refine ⟨?_, fun c x hout => ?_, s.bufStore_frame b a _⟩
    · rw [← BitVec.setWidth_eq_extractLsb' (by decide)]
      exact s.bufByte_bufStore_inside b a (bs := [v.setWidth 8]) (i := 0) Nat.zero_lt_one
    · refine s.bufByte_bufStore_outside (hout.imp_right fun hne => ?_)
      rw [List.length_singleton]
      omega

/-! ### The reads that are exact while BUSY -/

/-- A register of 20_memory.md R82's list reads exactly while BUSY = 1, too. -/
theorem State.read_register_exact {s : State} (hr : s.inReset = false) {o : Nat} (ho : o < 0x1000) (ha : o % 4 = 0)
    (hexact : s.exactWhileBusy (regAt o) = true) :
    s.hostAccess (.read .w32 (s.hostAddr o)) = s.respond (s.regValue (regAt o)) := by
  rw [State.hostAccess_read s .w32 (by omega) hr, targetAt_register _ ho ha]
  simp [State.readTarget, hexact]

theorem State.tagReadsExact_of_pending {s : State} {w : Word} (hp : s.pending = some w)
    (htext : decode w ≠ .command .tagLoadText) (hbytes : decode w ≠ .command .tagLoadBytes) :
    s.tagReadsExact = true := by
  simp [State.tagReadsExact, State.inFlight, hp, htext, hbytes]

theorem State.crcReadsExact_of_pending {s : State} {w : Word} (hp : s.pending = some w)
    (hinit : decode w ≠ .command .crcInit) (hrange : decode w ≠ .command .crcRange) : s.crcReadsExact = true := by
  simp [State.crcReadsExact, State.inFlight, hp, hinit, hrange]

/-- Settles O54: each listed register reads exactly under its condition, and IBUF always does. -/
theorem busyReadsThatAreExact : Obligations.BusyReadsThatAreExact := by
  unfold Obligations.BusyReadsThatAreExact
  intro s w hr hp hw
  have hsize := (bufSize_legal hp).2
  have hregister {r : Nat × Word} (h : r.1 < 0x1000 ∧ r.1 % 4 = 0 ∧ s.exactWhileBusy (regAt r.1) = true
      ∧ s.regValue (regAt r.1) = r.2) :
      s.hostAccess (.read .w32 (s.hostAddr r.1)) = { s with responses := r.2 :: s.responses } := by
    obtain ⟨ho, ha, hexact, hval⟩ := h
    rw [State.read_register_exact hr ho ha hexact, hval]
    rfl
  refine ⟨?always, ?tag, ?crc, ?byte, ?word⟩
  case always =>
    intro r hmem
    fin_cases hmem <;> exact hregister ⟨by simp, by simp, rfl, rfl⟩
  case tag =>
    intro htext hbytes r hmem
    have hexact := State.tagReadsExact_of_pending hw htext hbytes
    fin_cases hmem <;> exact hregister ⟨by simp, by simp, hexact, rfl⟩
  case crc =>
    intro hinit hrange r hmem
    have hexact := State.crcReadsExact_of_pending hw hinit hrange
    fin_cases hmem <;> exact hregister ⟨by simp, by simp, hexact, rfl⟩
  case byte =>
    intro a hin
    rw [State.hostAccess_read s _ (by omega) hr, targetAt_byte hp (.inl ⟨rfl, rfl⟩) hin]
    rfl
  case word =>
    intro a ha hin
    rw [State.hostAccess_read s _ (by omega) hr, targetAt_word hp (.inl ⟨rfl, rfl⟩) ha hin, State.readTarget,
      State.leWordAt_eq]
    rfl

end Sys2Proof.Machine

namespace Sys2Proof.Machine

/-! ### The decoder and the encoder

A command word is its two fields (30_encoding.md R100), and the two opcode maps are inverse to each other (R103). -/

theorem rsvField_toNat (w : Word) : (rsvField w).toNat = w.toNat / 256 := by
  have := w.isLt
  rw [rsvField, BitVec.extractLsb'_toNat, Nat.shiftRight_eq_div_pow]
  omega

theorem opField_toNat (w : Word) : (opField w).toNat = w.toNat % 256 := by
  rw [opField, BitVec.extractLsb'_toNat, Nat.shiftRight_zero]

/-- RSV is 0 below 256 (30_encoding.md R104). -/
theorem rsvField_eq_zero_iff (w : Word) : rsvField w = 0 ↔ w.toNat < 256 := by
  rw [← BitVec.toNat_inj, rsvField_toNat, BitVec.ofNat_eq_ofNat, BitVec.toNat_zero]
  omega

theorem encode_toNat (i : Instr) : (encode i).toNat = (opOf i).toNat := by
  have := (opOf i).isLt
  rw [encode, BitVec.toNat_setWidth]
  omega

/-- The word of a command has RSV = 0 and the command's OP, and it is the only such word (30_encoding.md R100). -/
theorem eq_encode_iff (w : Word) (i : Instr) : w = encode i ↔ rsvField w = 0 ∧ opField w = opOf i := by
  have := (opOf i).isLt
  rw [rsvField_eq_zero_iff, ← BitVec.toNat_inj, ← BitVec.toNat_inj, encode_toNat, opField_toNat]
  omega

theorem commandOf_opOf (i : Instr) : commandOf (opOf i) = some i := by
  cases i <;> rfl

theorem opOf_of_commandOf {op : Byte} {i : Instr} (h : commandOf op = some i) : op = opOf i := by
  apply BitVec.eq_of_toNat_eq
  unfold commandOf at h
  split at h
  case h_12 => cases h
  all_goals
    cases h
    assumption

/-- The opcode map, read from OP to the command and from the command to OP (30_encoding.md R103). -/
theorem commandOf_eq_some_iff (op : Byte) (i : Instr) : commandOf op = some i ↔ op = opOf i :=
  ⟨opOf_of_commandOf, fun h => h ▸ commandOf_opOf i⟩

/-- The reserved values of OP (30_encoding.md R104). -/
theorem commandOf_eq_none_iff (op : Byte) : commandOf op = none ↔
    (0x03 ≤ op.toNat ∧ op.toNat ≤ 0x0F) ∨ (0x12 ≤ op.toNat ∧ op.toNat ≤ 0x1F)
      ∨ (0x22 ≤ op.toNat ∧ op.toNat ≤ 0x2F) ∨ 0x34 ≤ op.toNat := by
  unfold commandOf
  split
  case h_12 =>
    simp only [imp_false, true_iff] at *
    omega
  all_goals
    simp only [reduceCtorEq, false_iff]
    omega

theorem decode_eq_command_iff (w : Word) (i : Instr) :
    decode w = .command i ↔ rsvField w = 0 ∧ commandOf (opField w) = some i := by
  unfold decode
  by_cases hrsv : rsvField w = 0
  · rw [if_neg (not_not.2 hrsv)]
    cases commandOf (opField w) <;> simp [hrsv]
  · rw [if_pos hrsv]
    exact iff_of_false nofun fun h => hrsv h.1

theorem decode_bad_iff (w : Word) :
    (∃ why, decode w = .badCommandWord why) ↔ rsvField w ≠ 0 ∨ commandOf (opField w) = none := by
  unfold decode
  by_cases hrsv : rsvField w = 0
  · rw [if_neg (not_not.2 hrsv)]
    cases commandOf (opField w) <;> simp [hrsv]
  · rw [if_pos hrsv]
    exact iff_of_true ⟨_, rfl⟩ (.inl hrsv)

theorem decode_eq_command_iff_eq_encode (w : Word) (i : Instr) : decode w = .command i ↔ w = encode i := by
  rw [decode_eq_command_iff, commandOf_eq_some_iff, eq_encode_iff]

theorem decode_encode (i : Instr) : decode (encode i) = .command i :=
  (decode_eq_command_iff_eq_encode _ i).2 rfl

/-- Settles O2: the decoder asks for RSV = 0 and the command's OP, and exactly the encoded word has both. -/
theorem decodeInvertsEncode : Obligations.DecodeInvertsEncode := by
  unfold Obligations.DecodeInvertsEncode
  exact decode_eq_command_iff_eq_encode

/-- Settles O1: each of the eleven words is the encoding of its row's command. -/
theorem decodeReadsTheOpcodeMap : Obligations.DecodeReadsTheOpcodeMap := by
  unfold Obligations.DecodeReadsTheOpcodeMap
  exact ⟨decode_encode .nop, decode_encode .crcInit, decode_encode .crcRange, decode_encode .tagLoadText,
    decode_encode .tagLoadBytes, decode_encode .chunkNew, decode_encode .chunkVerify, decode_encode .contBegin,
    decode_encode .contNext, decode_encode .contVerify, decode_encode .sigEmit,
    fun w i h => ((decode_eq_command_iff w i).1 h).1⟩

/-! ### A bad command word -/

/-- With a bad word in flight the engine's turn only raises BAD_COMMAND (30_encoding.md R102). -/
theorem engineTurn_of_badCommandWord {s : State} {w : Word} {why : BadWord} (hr : s.inReset = false)
    (hp : s.pending = some w) (hd : decode w = .badCommandWord why) :
    engineTurn s = .next (s.raiseError .badCommand 0) := by
  simp [engineTurn, State.inFlight, hr, hp, hd, execBadCommand]

/-- Settles O3: a word has RSV = 0 and then is its own OP, or RSV is not 0; and the engine's turn is the completion. -/
theorem reservedWordsAreBadCommands : Obligations.ReservedWordsAreBadCommands := by
  unfold Obligations.ReservedWordsAreBadCommands
  refine fun w => ⟨?_, fun why s hd hr hp => engineTurn_of_badCommandWord hr hp hd⟩
  rw [decode_bad_iff, Ne, rsvField_eq_zero_iff, commandOf_eq_none_iff, opField_toNat]
  omega

/-- Settles O5: the step takes the engine's turn, and that is the completion with BAD_COMMAND. -/
theorem stepRunsABadWordAsBadCommand : Obligations.StepRunsABadWordAsBadCommand := by
  unfold Obligations.StepRunsABadWordAsBadCommand
  intro s w why rest hr hp hd hcons
  rw [step_of_event hcons]
  exact engineTurn_of_badCommandWord (s := { s with events := rest }) hr hp hd

/-! ### A write to CMD -/

/-- A write to CMD while BUSY = 0 issues the word (30_encoding.md R106). -/
theorem State.write_cmd_of_idle {s : State} (hr : s.inReset = false) (hb : s.busy = false) (w : Word) :
    s.hostAccess (.write .w32 (s.hostAddr 0x010) w) = s.issue w :=
  State.write_register_of_idle hr hb (by omega) (by omega) w

/-- A write to CMD while BUSY = 1 is dropped (30_encoding.md R106, 20_memory.md R81). -/
theorem State.write_cmd_of_busy {s : State} (hr : s.inReset = false) (hb : s.busy = true) (w : Word) :
    s.hostAccess (.write .w32 (s.hostAddr 0x010) w) = s.dropWrite := by
  rw [State.hostAccess_write s .w32 w (by omega) hr, targetAt_register _ (by omega) (by omega)]
  exact State.writeTarget_of_busy hb w (by decide) (by decide) (by decide)

/-- Settles O7: an idle write to CMD is issue, and what it leaves in flight is the engine's next turn. -/
theorem commandWriteIssues : Obligations.CommandWriteIssues := by
  unfold Obligations.CommandWriteIssues
  refine fun s w hr => ⟨fun hb t ht => ?_, fun hb => State.write_cmd_of_busy hr hb w⟩
  rw [State.write_cmd_of_idle hr hb] at ht
  subst ht
  refine ⟨rfl, rfl, rfl, Bool.and_false s.ie, fun i hd => ?_⟩
  exact engineTurn_of_command (s := s.issue w) hr rfl hd

/-! ### What each command may write, and the codes it may end in

One law per body says both: which registers and buffers its pseudocode may write (30_encoding.md R101), and which of
60_exceptions.md R222's codes it may end in. -/

/-- s with the container session's registers replaced (43_container.md R192). -/
def State.withSession (s : State) (cs : CState) (cursor clen count : Word) : State :=
  { s with cstate := cs, cursor := cursor, clen := clen, chunkCount := count }

/-- t is s but for the container session's registers and the result registers. -/
def State.ContainerWritten (s t : State) : Prop :=
  ∃ cs cursor clen count off len type crc, t = (s.withSession cs cursor clen count).setResult off len type crc

/-- t is s but for what the command i may write before it completes. -/
def BodyWrites (i : Instr) (s t : State) : Prop :=
  match i with
  | .nop => t = s
  | .crcInit | .crcRange => ∃ acc, t = { s with crcAcc := acc }
  | .tagLoadText | .tagLoadBytes => ∃ tag, t = { s with tag := tag }
  | .chunkNew => ∃ m optr off len type crc, t = { (s.withObuf m).setResult off len type crc with optr := optr }
  | .chunkVerify => ∃ off len type crc, t = s.setResult off len type crc
  | .contBegin => ∃ cs cursor clen count, t = s.withSession cs cursor clen count
  | .contNext | .contVerify => s.ContainerWritten t
  | .sigEmit => ∃ m optr, t = { s.withObuf m with optr := optr }

/-- The code that a command's body ends in (60_exceptions.md R224). -/
def Ending.errCode : Ending → ErrCode
  | .complete => .noError
  | .raise code _ => code

/-- The command i's body, run from s, may end so. -/
structure BodyBounds (i : Instr) (s : State) (r : State × Ending) : Prop where
  writes : BodyWrites i s r.1
  code : r.2.errCode ∈ possibleErrors i

/-- Every command can complete without an error. -/
theorem noError_mem_possibleErrors (i : Instr) : .noError ∈ possibleErrors i := by
  cases i <;> decide

theorem BodyBounds.complete {i : Instr} {s t : State} (h : BodyWrites i s t) : BodyBounds i s (t, .complete) :=
  ⟨h, noError_mem_possibleErrors i⟩

theorem BodyBounds.raise {i : Instr} {s t : State} {code : ErrCode} {off : Word} (h : BodyWrites i s t)
    (hcode : code ∈ possibleErrors i) : BodyBounds i s (t, .raise code off) :=
  ⟨h, hcode⟩

theorem State.ContainerWritten.refl (s : State) : s.ContainerWritten s := ⟨_, _, _, _, _, _, _, _, rfl⟩

theorem State.ContainerWritten.trans {s t u : State} (hst : s.ContainerWritten t) (htu : t.ContainerWritten u) :
    s.ContainerWritten u := by
  obtain ⟨_, _, _, _, _, _, _, _, rfl⟩ := hst
  obtain ⟨_, _, _, _, _, _, _, _, rfl⟩ := htu
  exact ⟨_, _, _, _, _, _, _, _, rfl⟩

theorem crcRangeBody_bounds (s : State) : BodyBounds .crcRange s (crcRangeBody s) := by
  unfold crcRangeBody
  split
  · exact .complete ⟨_, rfl⟩
  · exact .raise ⟨_, rfl⟩ (by decide)

theorem tagLoadTextBody_bounds (s : State) : BodyBounds .tagLoadText s (tagLoadTextBody s) := by
  unfold tagLoadTextBody
  split
  · split
    · exact .raise ⟨_, rfl⟩ (by decide)
    · split
      · exact .complete ⟨_, rfl⟩
      · exact .raise ⟨_, rfl⟩ (by decide)
  · exact .raise ⟨_, rfl⟩ (by decide)

theorem tagLoadBytesBody_bounds (s : State) : BodyBounds .tagLoadBytes s (tagLoadBytesBody s) := by
  unfold tagLoadBytesBody
  split
  · exact .complete ⟨_, rfl⟩
  · exact .raise ⟨_, rfl⟩ (by decide)

theorem chunkNewBody_bounds (s : State) : BodyBounds .chunkNew s (chunkNewBody s) := by
  unfold chunkNewBody
  split
  · exact .complete ⟨_, _, _, _, _, _, rfl⟩
  · exact .raise ⟨_, _, _, _, _, _, rfl⟩ (by decide)

theorem chunkVerifyBody_bounds (s : State) : BodyBounds .chunkVerify s (chunkVerifyBody s) := by
  unfold chunkVerifyBody
  split
  · split
    · rename_i code herr
      have hcode : code ∈ possibleErrors .chunkVerify := by
        rcases State.parseFrame_err herr with rfl | rfl | rfl <;> decide
      exact .raise ⟨_, _, _, _, rfl⟩ hcode
    · exact .complete ⟨_, _, _, _, rfl⟩
  · exact .raise ⟨_, _, _, _, rfl⟩ (by decide)

theorem contBeginBody_bounds (s : State) : BodyBounds .contBegin s (contBeginBody s) := by
  rcases contBeginBody_cases s with ⟨-, e⟩ | ⟨-, -, e⟩ | ⟨-, -, -, e⟩ <;> rw [e]
  · exact .raise ⟨_, _, _, _, rfl⟩ (by decide)
  · exact .raise ⟨_, _, _, _, rfl⟩ (by decide)
  · exact .complete ⟨_, _, _, _, rfl⟩

theorem frameError_written (s : State) (code : ErrCode) : s.ContainerWritten (frameError s code).1 :=
  ⟨.failed, s.cursor, s.clen, s.chunkCount, s.resOff, s.resLen, s.resType, s.resCrc, rfl⟩

theorem acceptFrame_written (s : State) (len type crc : Word) : s.ContainerWritten (acceptFrame s len type crc) :=
  ⟨_, _, _, _, _, _, _, _, rfl⟩

/-- A pass over an OPEN session ends in no error but the two of a frame (43_container.md R194, R195). -/
theorem contNextBody_bounds_of_open {s : State} (ho : s.cstate = .opened) : s.ContainerWritten (contNextBody s).1
    ∧ (contNextBody s).2.errCode ∈ [ErrCode.noError, .truncated, .crcMismatch] := by
  rcases contNextBody_open ho with ⟨-, e⟩ | ⟨-, -, e⟩ | ⟨-, -, e⟩ <;> rw [e]
  · exact ⟨frameError_written s _, by simp [frameError, Ending.errCode]⟩
  · exact ⟨frameError_written s _, by simp [frameError, Ending.errCode]⟩
  · exact ⟨acceptFrame_written s _ _ _, by simp [Ending.errCode]⟩

theorem contNextBody_bounds (s : State) : BodyBounds .contNext s (contNextBody s) := by
  by_cases ho : s.cstate = .opened
  · obtain ⟨hwritten, hcode⟩ := contNextBody_bounds_of_open ho
    exact ⟨hwritten, (by decide : _ ⊆ possibleErrors .contNext) hcode⟩
  · rw [contNextBody_closed ho]
    exact .raise (State.ContainerWritten.refl s) (by decide)

/-- CONT_VERIFY writes what CONT_BEGIN and CONT_NEXT write, and ends in their codes but STATE (43_container.md R195). -/
theorem contVerifyBody_bounds (s : State) : BodyBounds .contVerify s (contVerifyBody s) := by
  have hbegin {t : State} {e : Ending} (h : contBeginBody s = (t, e)) : BodyBounds .contVerify s (t, e) := by
    obtain ⟨⟨cs, cursor, clen, count, hwritten⟩, hcode⟩ := h ▸ contBeginBody_bounds s
    exact ⟨⟨cs, cursor, clen, count, _, _, _, _, hwritten⟩, (by decide : possibleErrors .contBegin ⊆ _) hcode⟩
  have hnext {u t : State} {e : Ending} (hu : s.ContainerWritten u) (ho : u.cstate = .opened)
      (h : contNextBody u = (t, e)) : BodyBounds .contVerify s (t, e) := by
    obtain ⟨hwritten, hcode⟩ := h ▸ contNextBody_bounds_of_open ho
    exact ⟨hu.trans hwritten, (by decide : _ ⊆ possibleErrors .contVerify) hcode⟩
  refine contVerifyBody_rule (P := s.ContainerWritten) (Q := BodyBounds .contVerify s)
    ?begin_fails ?begins ?pass ?fail ?stop
  case begin_fails => exact fun _ _ _ h => hbegin h
  case begins => exact fun _ h => (hbegin h).writes
  case pass => exact fun _ _ hu ho h => (hnext hu ho h).writes
  case fail => exact fun _ _ _ _ hu ho h => hnext hu ho h
  case stop => exact fun _ hu _ => .complete hu

theorem sigEmitBody_bounds (s : State) : BodyBounds .sigEmit s (sigEmitBody s) := by
  unfold sigEmitBody
  split
  · exact .complete ⟨_, _, rfl⟩
  · exact .raise ⟨_, _, rfl⟩ (by decide)

theorem commandBody_bounds (i : Instr) (s : State) : BodyBounds i s (commandBody i s) := by
  cases i with
  | nop => exact .complete rfl
  | crcInit => exact .complete ⟨_, rfl⟩
  | crcRange => exact crcRangeBody_bounds s
  | tagLoadText => exact tagLoadTextBody_bounds s
  | tagLoadBytes => exact tagLoadBytesBody_bounds s
  | chunkNew => exact chunkNewBody_bounds s
  | chunkVerify => exact chunkVerifyBody_bounds s
  | contBegin => exact contBeginBody_bounds s
  | contNext => exact contNextBody_bounds s
  | contVerify => exact contVerifyBody_bounds s
  | sigEmit => exact sigEmitBody_bounds s

/-- Both completions (60_exceptions.md R224) leave a state that differs from the body's in BUSY, DONE, ERR and ERR_OFF alone,
as one that raises does. -/
theorem finish_eq_raiseError (r : State × Ending) : ∃ code off, finish r = r.1.raiseError code off := by
  match r with
  | (s, .complete) => exact ⟨s.err, s.errOff, rfl⟩
  | (_, .raise code off) => exact ⟨code, off, rfl⟩

/-- After a command: what its body may write, and the completion's BUSY, DONE, ERR and ERR_OFF. -/
theorem exec_writes {i : Instr} {s t : State} (h : exec i s = .next t) :
    ∃ u code off, BodyWrites i s u ∧ t = u.raiseError code off := by
  rw [exec_eq_finish] at h
  cases h
  obtain ⟨code, off, hfinish⟩ := finish_eq_raiseError (commandBody i s)
  exact ⟨_, code, off, (commandBody_bounds i s).writes, hfinish⟩

/-! ### Frames -/

/-- Settles O12: the commands of the family write at most CRC_ACC, and NOP nothing. -/
theorem frameOfCrcFamily : Obligations.FrameOfCrcFamily := by
  unfold Obligations.FrameOfCrcFamily
  intro i s t hi h
  have hhost := exec_hostSideSame h
  obtain ⟨u, code, off, hu, rfl⟩ := exec_writes h
  rcases hi with rfl | rfl | rfl
  · obtain rfl : u = s := hu
    exact ⟨hhost, ⟨fun _ => rfl, rfl⟩, ⟨rfl, rfl, rfl, rfl⟩, ⟨rfl, rfl, rfl, rfl⟩, rfl, fun _ => rfl⟩
  all_goals
    obtain ⟨acc, rfl⟩ := hu
    exact ⟨hhost, ⟨fun _ => rfl, rfl⟩, ⟨rfl, rfl, rfl, rfl⟩, ⟨rfl, rfl, rfl, rfl⟩, rfl, nofun⟩

/-- Settles O13: the commands of the family write at most TAG. -/
theorem frameOfTagFamily : Obligations.FrameOfTagFamily := by
  unfold Obligations.FrameOfTagFamily
  intro i s t hi h
  have hhost := exec_hostSideSame h
  obtain ⟨u, code, off, hu, rfl⟩ := exec_writes h
  obtain ⟨tag, rfl⟩ : ∃ tag, u = { s with tag := tag } := by
    rcases hi with rfl | rfl <;> exact hu
  exact ⟨hhost, ⟨fun _ => rfl, rfl⟩, ⟨rfl, rfl, rfl, rfl⟩, ⟨rfl, rfl, rfl, rfl⟩, rfl⟩

/-- A command changes no OBUF byte outside the bytes it stores from OPTR on. -/
theorem exec_obufByte_outside {i : Instr} {s t : State} (h : exec i s = .next t) {a : Nat}
    (hout : a < s.optrN ∨ s.optrN + (s.obufWrite i).length ≤ a) : t.bufByte .obuf a = s.bufByte .obuf a := by
  refine State.bufByte_congr (exec_hostSideSame h).epoch ?_
  rw [State.buf, State.buf, exec_obuf h]
  exact Memory.byteAt_storeBytes_outside hout

theorem State.obufWrite_chunkNew_length {s : State} (hfits : s.newFrameFits) :
    (s.obufWrite .chunkNew).length = 12 + s.lenN := by
  rw [State.obufWrite, if_pos hfits, State.newFrame_length]

theorem State.obufWrite_sigEmit_length {s : State} (hfits : s.inRange s.optrN 8) :
    (s.obufWrite .sigEmit).length = 8 := by
  rw [State.obufWrite, if_pos hfits]
  rfl

/-- With a range outside its buffer CHUNK_NEW only raises RANGE (42_chunk.md R164). -/
theorem exec_chunkNew_of_not_fits {s : State} (h : ¬ s.newFrameFits) :
    exec .chunkNew s = .next (s.raiseError .range 0) := by
  rw [exec_eq_finish, commandBody, chunkNewBody, if_neg h, finish_raise]

/-- With its range outside OBUF SIG_EMIT only raises RANGE (43_container.md R196). -/
theorem exec_sigEmit_of_not_fits {s : State} (h : ¬ s.inRange s.optrN 8) :
    exec .sigEmit s = .next (s.raiseError .range 0) := by
  rw [exec_eq_finish, commandBody, sigEmitBody, if_neg h, finish_raise]

/-- Settles O14: CHUNK_NEW writes OBUF, OPTR and the results, and CHUNK_VERIFY only the results. -/
theorem frameOfChunkFamily : Obligations.FrameOfChunkFamily := by
  unfold Obligations.FrameOfChunkFamily
  refine ⟨fun s t h => ?new, fun s t h => ?verify⟩
  case new =>
    have hinside (hfits : s.newFrameFits) (a : Nat) (hout : a < s.optrN ∨ s.optrN + (12 + s.lenN) ≤ a) :
        t.bufByte .obuf a = s.bufByte .obuf a :=
      exec_obufByte_outside h (by rwa [State.obufWrite_chunkNew_length hfits])
    have houtside (hfits : ¬ s.newFrameFits) : s.OutputSame t ∧ s.ResultSame t := by
      rw [exec_chunkNew_of_not_fits hfits] at h
      cases h
      exact ⟨⟨fun _ => rfl, rfl⟩, ⟨rfl, rfl, rfl, rfl⟩⟩
    have hhost := exec_hostSideSame h
    obtain ⟨_, _, _, ⟨_, _, _, _, _, _, rfl⟩, rfl⟩ := exec_writes h
    exact ⟨hhost, ⟨rfl, rfl, rfl, rfl⟩, rfl, rfl, hinside, houtside⟩
  case verify =>
    have hhost := exec_hostSideSame h
    obtain ⟨_, _, _, ⟨_, _, _, _, rfl⟩, rfl⟩ := exec_writes h
    exact ⟨hhost, ⟨fun _ => rfl, rfl⟩, ⟨rfl, rfl, rfl, rfl⟩, rfl, rfl⟩

/-- Settles O15: the three CONT commands write at most the session and the results, and SIG_EMIT at most OBUF and OPTR. -/
theorem frameOfContainerFamily : Obligations.FrameOfContainerFamily := by
  unfold Obligations.FrameOfContainerFamily
  refine ⟨fun s t h => ?begins, fun i s t hi h => ?next, fun s t h => ?emit⟩
  case begins =>
    have hhost := exec_hostSideSame h
    obtain ⟨_, _, _, ⟨_, _, _, _, rfl⟩, rfl⟩ := exec_writes h
    exact ⟨hhost, ⟨fun _ => rfl, rfl⟩, ⟨rfl, rfl, rfl, rfl⟩, rfl, rfl⟩
  case next =>
    have hhost := exec_hostSideSame h
    obtain ⟨u, _, _, hu, rfl⟩ := exec_writes h
    obtain ⟨_, _, _, _, _, _, _, _, rfl⟩ : s.ContainerWritten u := by
      rcases hi with rfl | rfl <;> exact hu
    exact ⟨hhost, ⟨fun _ => rfl, rfl⟩, rfl, rfl⟩
  case emit =>
    have hinside (hfits : s.inRange s.optrN 8) (a : Nat) (hout : a < s.optrN ∨ s.optrN + 8 ≤ a) :
        t.bufByte .obuf a = s.bufByte .obuf a :=
      exec_obufByte_outside h (by rwa [State.obufWrite_sigEmit_length hfits])
    have houtside (hfits : ¬ s.inRange s.optrN 8) : s.OutputSame t := by
      rw [exec_sigEmit_of_not_fits hfits] at h
      cases h
      exact ⟨fun _ => rfl, rfl⟩
    have hhost := exec_hostSideSame h
    obtain ⟨_, _, _, ⟨_, _, rfl⟩, rfl⟩ := exec_writes h
    exact ⟨hhost, ⟨rfl, rfl, rfl, rfl⟩, ⟨rfl, rfl, rfl, rfl⟩, rfl, rfl, hinside, houtside⟩

/-! ### The error codes -/

theorem finish_err {r : State × Ending} (h : r.1.err = .noError) : (finish r).err = r.2.errCode := by
  match r, h with
  | (_, .complete), h => exact h
  | (_, .raise _ _), _ => rfl

/-- No command writes ERR before it completes (60_exceptions.md R224). -/
theorem BodyWrites.err_same {i : Instr} {s t : State} (h : BodyWrites i s t) : t.err = s.err := by
  cases i with
  | nop => exact congrArg State.err h
  | crcInit | crcRange | tagLoadText | tagLoadBytes =>
    obtain ⟨_, rfl⟩ := h
    rfl
  | chunkNew =>
    obtain ⟨_, _, _, _, _, _, rfl⟩ := h
    rfl
  | chunkVerify | contBegin =>
    obtain ⟨_, _, _, _, rfl⟩ := h
    rfl
  | contNext | contVerify =>
    obtain ⟨_, _, _, _, _, _, _, _, rfl⟩ := h
    rfl
  | sigEmit =>
    obtain ⟨_, _, rfl⟩ := h
    rfl

/-- A command that starts with ERR clear ends in one of its codes (60_exceptions.md R222). -/
theorem exec_err_mem {i : Instr} {s t : State} (hs : s.err = .noError) (h : exec i s = .next t) :
    t.err ∈ possibleErrors i := by
  rw [exec_eq_finish] at h
  cases h
  obtain ⟨hwrites, hcode⟩ := commandBody_bounds i s
  rwa [finish_err (hwrites.err_same.trans hs)]

/-! A state for each command and each of its codes, with default parameters and ERR clear. -/

/-- The reset state with bs in IBUF, as a region of LEN bytes and as a container of IBUF_LEN bytes. -/
def inputState (bs : List Byte) : State :=
  { State.reset with ibuf := Memory.storeBytes [] 0 bs, len := toReg bs.length, ibufLen := toReg bs.length }

/-- A session that CONT_BEGIN has opened on the signature and bs. -/
def openedState (bs : List Byte) : State := finish (contBeginBody (inputState (Config.pngSig ++ bs)))

/-- The four letters "IEND". -/
def iendType : List Byte := [0x49, 0x45, 0x4E, 0x44]

/-- The frame of an IEND chunk, which has no data (42_chunk.md R160). -/
def iendFrame : List Byte := frameBytes iendType []

/-- The same frame with a wrong byte in its CRC field. -/
def badCrcFrame : List Byte := iendFrame.set 11 0

/-- A state from which the command ends in the code, for each code of R222's list (60_exceptions.md R222). From reset a
command that reads no input completes, a region is truncated, and there is no signature and no session. -/
def errorWitness : Instr → ErrCode → State
  | .crcRange, .range | .tagLoadText, .range | .tagLoadBytes, .range | .chunkNew, .range | .chunkVerify, .range =>
    { State.reset with src := 0x10001 }
  | .contBegin, .range | .contVerify, .range => { State.reset with ibufLen := 0x10001 }
  | .sigEmit, .range => { State.reset with optr := 0xFFF9 }
  | .tagLoadText, .noError => inputState iendType
  | .chunkVerify, .noError => inputState iendFrame
  | .chunkVerify, .lengthMismatch => inputState (iendFrame ++ [0])
  | .chunkVerify, .crcMismatch => inputState badCrcFrame
  | .contBegin, .noError | .contVerify, .noError => inputState Config.pngSig
  | .contNext, .noError => openedState iendFrame
  | .contNext, .truncated => openedState [0]
  | .contNext, .crcMismatch => openedState badCrcFrame
  | .contVerify, .truncated => inputState (Config.pngSig ++ [0])
  | .contVerify, .crcMismatch => inputState (Config.pngSig ++ badCrcFrame)
  | _, _ => State.reset

theorem errorWitness_ends (i : Instr) : ∀ c ∈ possibleErrors i,
    (errorWitness i c).IssueClear ∧ (errorWitness i c).params.wf = true
      ∧ (finish (commandBody i (errorWitness i c))).err = c := by
  cases i <;> decide +kernel

/-- Settles O9: a body's code is ERR after the command, each code has its witness, and a bad word has one completion. -/
theorem errorCodesOfEachCommand : Obligations.ErrorCodesOfEachCommand := by
  unfold Obligations.ErrorCodesOfEachCommand
  refine ⟨fun i s t hclear h => exec_err_mem hclear.1 h, fun i c hc => ?attained, fun s t w why hr hp hd h => ?bad⟩
  case attained =>
    obtain ⟨hclear, hparams, herr⟩ := errorWitness_ends i c hc
    exact ⟨errorWitness i c, _, hclear, hparams, exec_eq_finish i _, herr⟩
  case bad =>
    rw [engineTurn_of_badCommandWord hr hp hd] at h
    cases h
    rfl

end Sys2Proof.Machine

namespace Sys2Proof.Machine

/-! ### The CRC register

One shift is linear over GF(2) (exclusive or goes through it) and loses no bit, since the bit shifted out comes back in bit
31; both facts lift to the byte step and to the register over a byte sequence (40_crc.md R122, R123). -/

theorem crcShift_xor (c d : Word) : crcShift (c ^^^ d) = crcShift c ^^^ crcShift d := by
  unfold crcShift
  rw [BitVec.getLsbD_xor, BitVec.ushiftRight_xor_distrib]
  cases c.getLsbD 0 <;> cases d.getLsbD 0 <;>
    simp only [Bool.xor_false, Bool.false_xor, Bool.xor_self, Bool.false_eq_true, if_true, if_false]
  case false.true => exact BitVec.xor_assoc ..
  case true.false => ac_rfl
  case true.true =>
    calc c >>> 1 ^^^ d >>> 1
        = c >>> 1 ^^^ d >>> 1 ^^^ (crcPoly ^^^ crcPoly) := by rw [BitVec.xor_self, BitVec.xor_zero]
      _ = (c >>> 1 ^^^ crcPoly) ^^^ (d >>> 1 ^^^ crcPoly) := by ac_rfl

/-- Bit 31 after a shift is the bit shifted out: the polynomial's bit 31 is set (40_crc.md R120). -/
theorem crcShift_getLsbD_top (c : Word) : (crcShift c).getLsbD 31 = c.getLsbD 0 := by
  unfold crcShift
  cases h : c.getLsbD 0 <;> simp [crcPoly]

theorem eq_zero_of_crcShift_eq_zero {c : Word} (h : crcShift c = 0#32) : c = 0#32 := by
  have hlow : c.getLsbD 0 = false := by rw [← crcShift_getLsbD_top, h]; rfl
  have hhigh : c >>> 1 = 0#32 := by rwa [crcShift, hlow, if_neg Bool.false_ne_true] at h
  apply BitVec.eq_of_getLsbD_eq
  intro i _
  cases i with
  | zero => exact hlow
  | succ i => simpa [Nat.add_comm] using congrArg (·.getLsbD i) hhigh

theorem crcShift_injective : Function.Injective crcShift := by
  intro c d h
  refine BitVec.xor_eq_zero_iff.1 (eq_zero_of_crcShift_eq_zero ?_)
  rw [crcShift_xor, h, BitVec.xor_self]

theorem crcShifts_xor (n : Nat) (c d : Word) : crcShifts n (c ^^^ d) = crcShifts n c ^^^ crcShifts n d := by
  induction n generalizing c d with
  | zero => rfl
  | succ n ih => rw [crcShifts, crcShift_xor, ih, crcShifts, crcShifts]

theorem crcShifts_injective (n : Nat) : Function.Injective (crcShifts n) := by
  induction n with
  | zero => exact Function.injective_id
  | succ n ih => exact ih.comp crcShift_injective

theorem crcStep_xor (c d : Word) (a b : Byte) : crcStep (c ^^^ d) (a ^^^ b) = crcStep c a ^^^ crcStep d b := by
  rw [crcStep, crcStep, crcStep, ← crcShifts_xor, BitVec.setWidth_xor]
  congr 1
  ac_rfl

theorem crcStep_injective_register (b : Byte) : Function.Injective (crcStep · b) :=
  fun _ _ h => (BitVec.xor_left_inj _).1 (crcShifts_injective 8 h)

theorem crcStep_injective_byte (c : Word) : Function.Injective (crcStep c) := by
  intro a b h
  have hwide : a.setWidth 32 = b.setWidth 32 := (BitVec.xor_right_inj _).1 (crcShifts_injective 8 h)
  simpa using congrArg (BitVec.setWidth 8) hwide

theorem crcUpdate_append (c : Word) (s t : List Byte) : crcUpdate c (s ++ t) = crcUpdate (crcUpdate c s) t := by
  induction s generalizing c with
  | nil => rfl
  | cons b s ih => exact ih (crcStep c b)

theorem crcUpdate_injective_register (s : List Byte) : Function.Injective (crcUpdate · s) := by
  induction s with
  | nil => exact Function.injective_id
  | cons b s ih => exact ih.comp (crcStep_injective_register b)

theorem crcUpdate_xor {s e : List Byte} (h : e.length = s.length) (c d : Word) :
    crcUpdate (c ^^^ d) (List.zipWith (· ^^^ ·) s e) = crcUpdate c s ^^^ crcUpdate d e := by
  induction s generalizing c d e with
  | nil =>
    obtain rfl := List.length_eq_zero_iff.1 h
    rfl
  | cons a s ih =>
    match e, h with
    | b :: e, h =>
      rw [List.zipWith_cons_cons, crcUpdate, crcStep_xor]
      exact ih (Nat.succ.inj h) ..

/-- Settles O20: both runs of the register take the same byte steps in the same order. -/
theorem crcUpdateSplits : Obligations.CrcUpdateSplits := by
  unfold Obligations.CrcUpdateSplits
  exact fun c s t => (crcUpdate_append c s t).symm

/-- A byte sequence is unchanged by exclusive or with zeros. -/
theorem zipWith_xor_zeros (e : List Byte) : List.zipWith (· ^^^ ·) e (List.replicate e.length 0) = e := by
  induction e with
  | nil => rfl
  | cons b e ih => simpa [List.replicate_succ] using ih

/-- Settles O21: the register is linear, and the constants of the three CRCs leave one init and one xorout. -/
theorem crcIsLinear : Obligations.CrcIsLinear := by
  unfold Obligations.CrcIsLinear
  intro s e hlen
  have hzeros : crcUpdate 0#32 e = crcUpdate crcOnes e ^^^ crcUpdate crcOnes (List.replicate s.length 0) := by
    rw [← crcUpdate_xor (by simp [hlen]), ← hlen, zipWith_xor_zeros, BitVec.xor_self]
  have hsum : crcUpdate crcOnes (List.zipWith (· ^^^ ·) s e) = crcUpdate crcOnes s ^^^ crcUpdate 0#32 e := by
    rw [← crcUpdate_xor hlen, BitVec.xor_zero]
  calc crc32 (List.zipWith (· ^^^ ·) s e)
      = crc32 s ^^^ crcUpdate crcOnes e ^^^ crcUpdate crcOnes (List.replicate s.length 0)
          ^^^ (crcOnes ^^^ crcOnes) := by
        rw [crc32, crcFinal, hsum, hzeros, crc32, crcFinal, BitVec.xor_self, BitVec.xor_zero]
        ac_rfl
    _ = crc32 s ^^^ crc32 e ^^^ crc32 (List.replicate s.length 0) := by
        simp only [crc32, crcFinal]
        ac_rfl

/-- The xorout loses nothing: sequences with the same CRC leave the same register (40_crc.md R123). -/
theorem crc32_eq_iff (s t : List Byte) : crc32 s = crc32 t ↔ crcUpdate crcOnes s = crcUpdate crcOnes t :=
  BitVec.xor_left_inj _

theorem byte_xor_ne_self (b : Byte) {e : Byte} (h : e ≠ 0) : b ^^^ e ≠ b := by
  simpa using h

/-- Settles O23: the changed byte gives another register, and the rest of the sequence keeps registers apart. -/
theorem crcDetectsAChangedByte : Obligations.CrcDetectsAChangedByte := by
  unfold Obligations.CrcDetectsAChangedByte
  intro s t b e he hcrc
  rw [crc32_eq_iff, crcUpdate_append, crcUpdate_append] at hcrc
  exact byte_xor_ne_self b he (crcStep_injective_byte _ (crcUpdate_injective_register t hcrc))

/-! ### The bit-serial form

Bit reversal carries one register onto the other, shift by shift (40_crc.md R121). -/

theorem reverse_xor (c d : Word) : (c ^^^ d).reverse = c.reverse ^^^ d.reverse := by
  apply BitVec.eq_of_getLsbD_eq
  intro i hi
  simp only [BitVec.getLsbD_reverse, BitVec.getMsbD_xor, BitVec.getLsbD_xor]

theorem reverse_shiftLeft_one (c : Word) : (c <<< 1).reverse = c.reverse >>> 1 := by
  apply BitVec.eq_of_getLsbD_eq
  intro i hi
  rw [BitVec.getLsbD_reverse, BitVec.getMsbD_shiftLeft, BitVec.getLsbD_ushiftRight, BitVec.getLsbD_reverse, Nat.add_comm]

/-- A byte reversed into the top of the bit-serial register is the byte at the bottom of the other one. -/
theorem reverse_reversed_byte (b : Byte) : (b.reverse.setWidth 32 <<< 24).reverse = b.setWidth 32 := by
  apply BitVec.eq_of_getLsbD_eq
  intro i hi
  rw [BitVec.getLsbD_reverse, BitVec.getMsbD_shiftLeft, BitVec.getLsbD_setWidth]
  by_cases h : i < 8
  · interval_cases i <;> simp [BitVec.getMsbD, BitVec.getElem_reverse]
  · rw [BitVec.getLsbD_of_ge b i (by omega), BitVec.getMsbD_of_ge _ _ (by omega)]
    simp

/-- The two polynomials are each other's reverse (40_crc.md R120). -/
theorem reverse_serialPoly : BitVec.reverse 0x04C11DB7#32 = crcPoly := by decide +kernel

theorem reverse_serialShift (c : Word) : (serialShift c).reverse = crcShift c.reverse := by
  have htop : c.getLsbD 31 = c.reverse.getLsbD 0 := by rw [BitVec.getLsbD_reverse]; rfl
  unfold serialShift crcShift
  rw [htop, apply_ite BitVec.reverse, reverse_xor, reverse_shiftLeft_one, reverse_serialPoly]

theorem reverse_serialShifts (n : Nat) (c : Word) : (serialShifts n c).reverse = crcShifts n c.reverse := by
  induction n generalizing c with
  | zero => rfl
  | succ n ih => rw [serialShifts, ih, reverse_serialShift, crcShifts]

theorem reverse_serialStep (c : Word) (b : Byte) : (serialStep c b).reverse = crcStep c.reverse b := by
  rw [serialStep, reverse_serialShifts, reverse_xor, reverse_reversed_byte, crcStep]

theorem reverse_serialUpdate (c : Word) (s : List Byte) : (serialUpdate c s).reverse = crcUpdate c.reverse s := by
  induction s generalizing c with
  | nil => rfl
  | cons b s ih => rw [serialUpdate, ih, reverse_serialStep, crcUpdate]

/-- Settles O22: the registers are each other's reverse, and init and xorout are their own. -/
theorem crcBitSerialFormAgrees : Obligations.CrcBitSerialFormAgrees := by
  unfold Obligations.CrcBitSerialFormAgrees
  intro s
  have hinit : BitVec.reverse 0xFFFFFFFF#32 = crcOnes := by decide +kernel
  rw [serialCrc32, reverse_serialUpdate, hinit, crc32, crcFinal, crcOnes]

/-! ### A changed byte of a frame -/

theorem modify_append_of_lt {α : Type} (f : α → α) {l : List α} (m : List α) {k : Nat} (h : k < l.length) :
    (l ++ m).modify k f = l.modify k f ++ m := by
  induction l generalizing k with
  | nil => exact absurd h (Nat.not_lt_zero k)
  | cons x l ih =>
    cases k with
    | zero => rfl
    | succ k => simpa using ih (Nat.lt_of_succ_lt_succ h)

theorem modify_append_of_ge {α : Type} (f : α → α) (l m : List α) (i : Nat) :
    (l ++ m).modify (l.length + i) f = l ++ m.modify i f :=
  List.modifyTailIdx_add _ i l m

theorem modify_xor_ne_self {l : List Byte} {k : Nat} (hk : k < l.length) {e : Byte} (he : e ≠ 0) :
    l.modify k (· ^^^ e) ≠ l := by
  intro h
  have hbyte : (l.modify k (· ^^^ e))[k]? = l[k]? := by rw [h]
  exact he (by simpa [hk] using hbyte)

theorem crc32_modify_ne {l : List Byte} {k : Nat} (hk : k < l.length) {e : Byte} (he : e ≠ 0) :
    crc32 (l.modify k (· ^^^ e)) ≠ crc32 l := by
  have hsplit : l = l.take k ++ l[k] :: l.drop (k + 1) := by simp
  rw [List.modify_eq_take_cons_drop hk]
  conv_rhs => rw [hsplit]
  exact crcDetectsAChangedByte _ _ _ e he

/-- A region with the length field of a frame of its size, but another CRC field than the bytes between have, is a
CRC_MISMATCH (42_chunk.md R162). -/
theorem State.parseFrame_crcMismatch {s : State} {a n : Nat} {body stored : List Byte} (hn : n < 2 ^ 32)
    (hlen : body.length = 4 + n) (hread : s.memRead a (12 + n) = bytesBE32 (toReg n) ++ (body ++ stored))
    (hbad : stored ≠ bytesBE32 (crc32 body)) : s.parseFrame a (12 + n) = .err .crcMismatch := by
  rw [show 12 + n = 4 + ((4 + n) + 4) by omega, State.memRead_add, State.memRead_add s (a + 4)] at hread
  obtain ⟨hfield, hrest⟩ := List.append_inj hread (by simp)
  obtain ⟨hbody, hstored⟩ := List.append_inj hrest (by simp [hlen])
  rw [State.memRead_add, Nat.add_assoc] at hbody
  rw [show a + 4 + (4 + n) = a + 8 + n by omega, ← State.bytesBE32_be32At] at hstored
  have hl : (s.be32At a).toNat = n := by rw [State.be32At_of_memRead hfield, toNat_toReg hn]
  have hparse := s.parseFrame_exact a
  rwa [hl, hbody, if_pos fun h => hbad (by rw [h, hstored])] at hparse

/-- The field that follows the type and data of a chunk is their CRC, and one changed byte, in them or in it, makes the two
differ (40_crc.md R131). -/
theorem State.parseFrame_changed_wire {s : State} {a k : Nat} {c : Chunk} {e : Byte} (hwf : c.wf)
    (hlen : c.data.length < 2 ^ 32) (he : e ≠ 0) (hk : 4 ≤ k) (hkl : k < 12 + c.data.length)
    (hread : s.memRead a (12 + c.data.length) = c.wire.modify k (· ^^^ e)) :
    s.parseFrame a (12 + c.data.length) = .err .crcMismatch := by
  have hbody : (c.type ++ c.data).length = 4 + c.data.length := by rw [List.length_append, hwf]
  obtain ⟨j, rfl⟩ : ∃ j, k = (bytesBE32 (toReg c.data.length)).length + j := ⟨k - 4, by rw [bytesBE32_length]; omega⟩
  rw [bytesBE32_length] at hkl
  rw [Chunk.wire, frameBytes, List.append_assoc, List.append_assoc, ← List.append_assoc c.type, modify_append_of_ge]
    at hread
  by_cases hj : j < (c.type ++ c.data).length
  · rw [modify_append_of_lt _ _ hj] at hread
    refine State.parseFrame_crcMismatch hlen (by rw [List.length_modify, hbody]) hread fun h => ?_
    exact crc32_modify_ne hj he (bytesBE32_inj h).symm
  · obtain ⟨i, rfl⟩ : ∃ i, j = (c.type ++ c.data).length + i := ⟨j - (c.type ++ c.data).length, by omega⟩
    rw [modify_append_of_ge] at hread
    refine State.parseFrame_crcMismatch hlen hbody hread (modify_xor_ne_self ?_ he)
    rw [bytesBE32_length]
    omega

/-- CHUNK_VERIFY reports parse_frame's error at SRC (42_chunk.md R165). -/
theorem exec_chunkVerify_of_err {s : State} {code : ErrCode} (hr : s.inRange s.srcN s.lenN)
    (h : s.parseFrame s.srcN s.lenN = .err code) : exec .chunkVerify s = .next (s.raiseError code s.src) := by
  rw [exec_eq_finish, commandBody, chunkVerifyBody, if_pos hr, h, finish_raise]

/-- Settles O32: parse_frame finds the changed byte, and CHUNK_VERIFY reports it. -/
theorem changedFrameByteIsCrcMismatch : Obligations.ChangedFrameByteIsCrcMismatch := by
  unfold Obligations.ChangedFrameByteIsCrcMismatch
  intro s c k e hwf _ he hk hkl hlen hrange hread
  have hwire : c.wire.length = 12 + c.data.length := frameBytes_length _ _ hwf
  have hdata : c.data.length < 2 ^ 32 := by
    have : s.lenN < 2 ^ 32 := s.len.isLt
    omega
  rw [hlen, hwire] at hread
  have hparse := State.parseFrame_changed_wire hwf hdata he hk (hwire ▸ hkl) hread
  rw [← hwire, ← hlen] at hparse
  exact ⟨_, exec_chunkVerify_of_err hrange hparse, rfl, rfl, rfl, rfl⟩

/-! ### Commands and CRC_ACC

The chunk and container commands run the engine's private register, never CRC_ACC (40_crc.md R129): replacing CRC_ACC before
a command's body is replacing it after. -/

/-- s with another CRC_ACC. -/
def State.withCrcAcc (s : State) (acc : Word) : State := { s with crcAcc := acc }

/-- The end of a command's body with another CRC_ACC. -/
def bodyWithCrcAcc (acc : Word) : State × Ending → State × Ending := Prod.map (State.withCrcAcc · acc) id

theorem State.memRead_withCrcAcc (s : State) (acc : Word) (a n : Nat) :
    (s.withCrcAcc acc).memRead a n = s.memRead a n :=
  State.memRead_congr fun _ _ _ => rfl

theorem finish_bodyWithCrcAcc (acc : Word) (r : State × Ending) :
    finish (bodyWithCrcAcc acc r) = (finish r).withCrcAcc acc := by
  match r with
  | (_, .complete) => rfl
  | (_, .raise _ _) => rfl

theorem chunkNewBody_withCrcAcc (s : State) (acc : Word) :
    chunkNewBody (s.withCrcAcc acc) = bodyWithCrcAcc acc (chunkNewBody s) := by
  unfold chunkNewBody State.newFrame
  simp only [State.memRead_withCrcAcc, apply_ite (bodyWithCrcAcc acc)]
  rfl

theorem chunkVerifyBody_withCrcAcc (s : State) (acc : Word) :
    chunkVerifyBody (s.withCrcAcc acc) = bodyWithCrcAcc acc (chunkVerifyBody s) := by
  have hparse : (s.withCrcAcc acc).parseFrame s.srcN s.lenN = s.parseFrame s.srcN s.lenN :=
    State.parseFrame_congr fun _ _ _ => rfl
  unfold chunkVerifyBody
  rw [apply_ite (bodyWithCrcAcc acc), show (s.withCrcAcc acc).srcN = s.srcN from rfl,
    show (s.withCrcAcc acc).lenN = s.lenN from rfl, hparse]
  cases s.parseFrame s.srcN s.lenN with
  | ok l t c => rfl
  | err code => rfl

theorem contBeginBody_withCrcAcc (s : State) (acc : Word) :
    contBeginBody (s.withCrcAcc acc) = bodyWithCrcAcc acc (contBeginBody s) := by
  unfold contBeginBody
  simp only [apply_ite (bodyWithCrcAcc acc)]
  rfl

theorem contNextBody_withCrcAcc (s : State) (acc : Word) :
    contNextBody (s.withCrcAcc acc) = bodyWithCrcAcc acc (contNextBody s) := by
  by_cases ho : s.cstate = .opened
  · have hframe : (s.withCrcAcc acc).frameAtCursor = s.frameAtCursor :=
      State.frameAtCursor_congr rfl rfl fun _ _ => rfl
    rw [contNextBody_eq_takeFrame ho, contNextBody_eq_takeFrame (s := s.withCrcAcc acc) ho, hframe]
    cases s.frameAtCursor with
    | ok l t c => rfl
    | err code => rfl
  · rw [contNextBody_closed ho, contNextBody_closed (s := s.withCrcAcc acc) ho]
    rfl

/-- A change f of the state that keeps CSTATE, and that each pass of CONT_VERIFY's loop carries along, is carried along by
the loop (43_container.md R195). -/
theorem verifyLoop_map {f : State → State} (hcstate : ∀ s, (f s).cstate = s.cstate)
    (hpass : ∀ s, contNextBody (f s) = Prod.map f id (contNextBody s)) (fuel : Nat) (s : State) :
    verifyLoop fuel (f s) = Prod.map f id (verifyLoop fuel s) := by
  induction fuel generalizing s with
  | zero => rfl
  | succ fuel ih =>
    rw [verifyLoop, verifyLoop, hcstate]
    by_cases ho : s.cstate = .opened
    · rw [if_pos ho, if_pos ho, hpass]
      match contNextBody s with
      | (t, .complete) => exact ih t
      | (_, .raise _ _) => rfl
    · rw [if_neg ho, if_neg ho]
      rfl

theorem contVerifyBody_withCrcAcc (s : State) (acc : Word) :
    contVerifyBody (s.withCrcAcc acc) = bodyWithCrcAcc acc (contVerifyBody s) := by
  unfold contVerifyBody
  rw [contBeginBody_withCrcAcc]
  match contBeginBody s with
  | (t, .complete) =>
    exact verifyLoop_map (f := (State.withCrcAcc · acc)) (fun _ => rfl) (contNextBody_withCrcAcc · acc) t.verifyFuel t
  | (_, .raise _ _) => rfl

theorem sigEmitBody_withCrcAcc (s : State) (acc : Word) :
    sigEmitBody (s.withCrcAcc acc) = bodyWithCrcAcc acc (sigEmitBody s) := by
  unfold sigEmitBody
  rw [apply_ite (bodyWithCrcAcc acc)]
  rfl

/-- Settles O41: from another CRC_ACC the same but for CRC_ACC, and so from CRC_ACC itself the same CRC_ACC. -/
theorem chunkCommandsIgnoreCrcAcc : Obligations.ChunkCommandsIgnoreCrcAcc := by
  unfold Obligations.ChunkCommandsIgnoreCrcAcc
  intro i s t c hi ht
  have hbody (acc : Word) : commandBody i (s.withCrcAcc acc) = bodyWithCrcAcc acc (commandBody i s) := by
    rcases hi with rfl | rfl | rfl | rfl | rfl | rfl
    · exact chunkNewBody_withCrcAcc s acc
    · exact chunkVerifyBody_withCrcAcc s acc
    · exact contBeginBody_withCrcAcc s acc
    · exact contNextBody_withCrcAcc s acc
    · exact contVerifyBody_withCrcAcc s acc
    · exact sigEmitBody_withCrcAcc s acc
  have hexec (acc : Word) : exec i (s.withCrcAcc acc) = .next (t.withCrcAcc acc) := by
    rw [exec_eq_finish] at ht ⊢
    cases ht
    rw [hbody, finish_bodyWithCrcAcc]
  have hself : exec i s = .next (t.withCrcAcc s.crcAcc) := hexec s.crcAcc
  rw [ht] at hself
  injection hself with hself
  have hacc : t.crcAcc = (t.withCrcAcc s.crcAcc).crcAcc := congrArg State.crcAcc hself
  exact ⟨hacc, hexec c⟩

/-! ### The CRC family -/

/-- With ERR and ERR_OFF at 0 from issue, `complete()` is the completion with NONE (60_exceptions.md R224). -/
theorem State.IssueClear.complete {s : State} (h : s.IssueClear) : s.complete = s.raiseError .noError 0 := by
  obtain ⟨herr, hoff⟩ := h
  rw [State.raiseError, ← herr, ← hoff, State.complete]

/-- Settles O16: NOP's body writes nothing. -/
theorem nopOnlyCompletes : Obligations.NopOnlyCompletes := by
  unfold Obligations.NopOnlyCompletes
  refine ⟨decode_encode .nop, by decide, fun s h => ?_⟩
  rw [exec_eq_finish, commandBody, finish_complete, State.IssueClear.complete h, State.raiseError]

/-- Settles O17: CRC_INIT's body writes CRC_ACC. -/
theorem crcInitSetsTheRegister : Obligations.CrcInitSetsTheRegister := by
  unfold Obligations.CrcInitSetsTheRegister
  refine ⟨decode_encode .crcInit, fun s h => ?_⟩
  have hclear : (s.withCrcAcc crcOnes).IssueClear := h
  exact congrArg Host.Outcome.next hclear.complete

/-- Settles O18: CRC_RANGE's body writes CRC_ACC when its range test passes, and else only raises. -/
theorem crcRangeFeedsTheRange : Obligations.CrcRangeFeedsTheRange := by
  unfold Obligations.CrcRangeFeedsTheRange
  refine ⟨decode_encode .crcRange, fun s h => ⟨fun hfits => ?_, fun hout => ?_⟩⟩
  · have hclear : (s.withCrcAcc (crcUpdate s.crcAcc (s.memRead s.srcN s.lenN))).IssueClear := h
    rw [exec_eq_finish, commandBody, crcRangeBody, if_pos hfits]
    exact congrArg Host.Outcome.next hclear.complete
  · rw [exec_eq_finish, commandBody, crcRangeBody, if_neg (Nat.not_le_of_lt hout), finish_raise, State.raiseError]

/-- Settles O19: CRC_DIN is a 32-bit register that is written idle, dropped while BUSY, and has no byte access. -/
theorem crcDinWriteFeedsOneByte : Obligations.CrcDinWriteFeedsOneByte := by
  unfold Obligations.CrcDinWriteFeedsOneByte
  refine fun s v hr => ⟨fun hb => ?idle, fun hb => ?busy, ?byte⟩
  case idle =>
    rw [State.write_register_of_idle hr hb (by omega) (by omega), ← BitVec.setWidth_eq_extractLsb' (by omega)]
    rfl
  case busy =>
    rw [State.hostAccess_write s .w32 v (by omega) hr, targetAt_register _ (by omega) (by omega)]
    exact State.writeTarget_of_busy hb v (by decide) (by decide) (by decide)
  case byte =>
    rw [State.hostAccess_write s .w8 v (by omega) hr]
    rfl

end Sys2Proof.Machine

namespace Sys2Proof.Machine

/-! ### The tag family -/

@[simp] theorem tagByte_be32_zero (b0 b1 b2 b3 : Byte) : tagByte (be32 b0 b1 b2 b3) 0 = b0 := be32_extract24 b0 b1 b2 b3
@[simp] theorem tagByte_be32_one (b0 b1 b2 b3 : Byte) : tagByte (be32 b0 b1 b2 b3) 1 = b1 := be32_extract16 b0 b1 b2 b3
@[simp] theorem tagByte_be32_two (b0 b1 b2 b3 : Byte) : tagByte (be32 b0 b1 b2 b3) 2 = b2 := be32_extract8 b0 b1 b2 b3
@[simp] theorem tagByte_be32_three (b0 b1 b2 b3 : Byte) : tagByte (be32 b0 b1 b2 b3) 3 = b3 := be32_extract0 b0 b1 b2 b3

/-- The letters are A to Z and a to z (41_tag.md R141). -/
theorem alphabetic_iff (b : Byte) :
    alphabetic b = true ↔ (0x41 ≤ b.toNat ∧ b.toNat ≤ 0x5A) ∨ (0x61 ≤ b.toNat ∧ b.toNat ≤ 0x7A) := by
  simp only [alphabetic, Bool.or_eq_true, Bool.and_eq_true, decide_eq_true_eq]

theorem tagAlpha_be32_iff (b0 b1 b2 b3 : Byte) :
    tagAlpha (be32 b0 b1 b2 b3) = true ↔ ∀ b ∈ [b0, b1, b2, b3], alphabetic b = true := by
  simp [tagAlpha, and_assoc]

theorem tagAscii_be32_iff (b0 b1 b2 b3 : Byte) :
    tagAscii (be32 b0 b1 b2 b3) = true ↔ ∀ b ∈ [b0, b1, b2, b3], b.toNat < 0x80 := by
  simp [tagAscii, and_assoc]

/-- taginfo bit by bit: its seven flags at [6:0] (41_tag.md R142). -/
theorem taginfo_getLsbD (t : Word) (j : Nat) :
    (taginfo t).getLsbD j
      = (tagCritical t && decide (0 = j) || tagPublic t && decide (1 = j) || tagReservedValid t && decide (2 = j)
        || tagSafeToCopy t && decide (3 = j) || tagValid t && decide (4 = j) || tagAlpha t && decide (5 = j)
        || tagAscii t && decide (6 = j)) := by
  simp only [taginfo, BitVec.getLsbD_or, flagBit_getLsbD, Nat.reduceLT]

/-- Settles O24: each of the seven flags stands at its bit, and reads the bytes the tag was packed from. -/
theorem taginfoReadsTheTagBytes : Obligations.TaginfoReadsTheTagBytes := by
  unfold Obligations.TaginfoReadsTheTagBytes
  intro b0 b1 b2 b3
  refine ⟨?critical, ?isPublic, ?reservedValid, ?safeToCopy, ?valid, ?alpha, ?ascii, ?upper⟩
  case alpha =>
    have hbit : (taginfo (be32 b0 b1 b2 b3)).getLsbD 5 = tagAlpha (be32 b0 b1 b2 b3) := by
      rw [taginfo_getLsbD]
      simp
    simp only [hbit, tagAlpha_be32_iff, alphabetic_iff]
  case ascii =>
    have hbit : (taginfo (be32 b0 b1 b2 b3)).getLsbD 6 = tagAscii (be32 b0 b1 b2 b3) := by
      rw [taginfo_getLsbD]
      simp
    rw [hbit, tagAscii_be32_iff]
  case upper =>
    intro j hj
    have hflag (i : Nat) (hi : i < 7) : decide (i = j) = false := decide_eq_false (by omega)
    simp [taginfo_getLsbD, hflag]
  all_goals
    rw [taginfo_getLsbD]
    simp [tagCritical, tagPublic, tagReservedValid, tagSafeToCopy, tagValid, bit5]

/-- The letter test reads the four bytes from a on (41_tag.md R150). -/
theorem State.lettersAt_iff (s : State) (a : Nat) :
    s.lettersAt a = true ↔ ∀ k, k < 4 → alphabetic (s.bufByte .ibuf (a + k)) = true := by
  simp only [State.lettersAt, Bool.and_eq_true]
  constructor
  · rintro ⟨⟨⟨h0, h1⟩, h2⟩, h3⟩ k hk
    interval_cases k
    · exact h0
    · exact h1
    · exact h2
    · exact h3
  · exact fun h => ⟨⟨⟨h 0 (by decide), h 1 (by decide)⟩, h 2 (by decide)⟩, h 3 (by decide)⟩

/-- s with the four bytes at SRC in TAG: what both tag loads write (41_tag.md R150, R151). -/
def State.loadTag (s : State) : State := { s with tag := s.be32At s.srcN }

/-- With ERR and ERR_OFF at 0 from issue, a load of TAG completes with NONE. -/
theorem State.IssueClear.complete_loadTag {s : State} (h : s.IssueClear) :
    s.loadTag.complete = s.loadTag.raiseError .noError 0 :=
  State.IssueClear.complete (s := s.loadTag) h

/-- A refused TAG_LOAD_TEXT: LEN is not 4, or a byte is not a letter (41_tag.md R150). -/
theorem tagLoadTextBody_invalid {s : State} (hfits : s.inRange s.srcN s.lenN)
    (hbad : s.lenN ≠ 4 ∨ s.lettersAt s.srcN = false) : tagLoadTextBody s = (s, .raise .invalidTag 0) := by
  rw [tagLoadTextBody, if_pos hfits]
  by_cases hlen : s.lenN = 4
  · have hletters := hbad.resolve_left (not_not_intro hlen)
    rw [if_neg (not_not_intro hlen), hletters, if_neg Bool.false_ne_true]
  · rw [if_pos hlen]

/-- Settles O25: the checks of TAG_LOAD_TEXT's body in their order, and the load that is left. -/
theorem tagLoadTextChecksAndLoads : Obligations.TagLoadTextChecksAndLoads := by
  unfold Obligations.TagLoadTextChecksAndLoads
  refine ⟨decode_encode .tagLoadText, fun s h => ⟨fun hout => ?range, fun hfits hbad => ?invalid,
    fun hfits hlen halpha => ?load⟩⟩
  case range =>
    rw [exec_eq_finish, commandBody, tagLoadTextBody, if_neg (Nat.not_le_of_lt hout), finish_raise, State.raiseError]
  case invalid =>
    have hrefused : s.lenN ≠ 4 ∨ s.lettersAt s.srcN = false := by
      refine hbad.imp_right fun ⟨k, hk, hbyte⟩ => Bool.eq_false_iff.mpr fun hletters => ?_
      exact Bool.eq_false_iff.mp hbyte ((s.lettersAt_iff _).mp hletters k hk)
    rw [exec_eq_finish, commandBody, tagLoadTextBody_invalid hfits hrefused, finish_raise, State.raiseError]
  case load =>
    have hletters := (s.lettersAt_iff _).mpr halpha
    rw [exec_eq_finish, commandBody, tagLoadTextBody, if_pos hfits, if_neg (not_not_intro hlen), if_pos hletters]
    exact congrArg Host.Outcome.next h.complete_loadTag

/-- Settles O26: TAG_LOAD_BYTES loads when its range test passes, and else only raises. -/
theorem tagLoadBytesLoads : Obligations.TagLoadBytesLoads := by
  unfold Obligations.TagLoadBytesLoads
  refine ⟨decode_encode .tagLoadBytes, fun s h => ⟨fun hfits => ?load, fun hout => ?range⟩⟩
  case load =>
    rw [exec_eq_finish, commandBody, tagLoadBytesBody, if_pos hfits]
    exact congrArg Host.Outcome.next h.complete_loadTag
  case range =>
    rw [exec_eq_finish, commandBody, tagLoadBytesBody, if_neg (Nat.not_le_of_lt hout), finish_raise, State.raiseError]

end Sys2Proof.Machine

namespace Sys2Proof.Machine

/-! ### What parse_frame answers on a region -/

/-- A region too short for the frame its length field tells of (42_chunk.md R162). -/
theorem State.parseFrame_of_short {s : State} {a n : Nat} (h : n < 12 ∨ n < 12 + (s.be32At a).toNat) :
    s.parseFrame a n = .err .truncated := by
  unfold State.parseFrame
  by_cases hshort : n < 12
  · rw [if_pos hshort]
  · rw [if_neg hshort]
    exact if_pos (h.resolve_left hshort)

/-- With the declared frame inside the region only its CRC and then its size can be wrong (42_chunk.md R162, R163). -/
theorem State.parseFrame_of_fits {s : State} {a n : Nat} (h : 12 + (s.be32At a).toNat ≤ n) :
    s.parseFrame a n
      = if crc32 (s.memRead (a + 4) (4 + (s.be32At a).toNat)) ≠ s.be32At (a + 8 + (s.be32At a).toNat)
          then .err .crcMismatch
        else if 12 + (s.be32At a).toNat ≠ n then .err .lengthMismatch
        else .ok (s.be32At a) (s.be32At (a + 4)) (s.be32At (a + 8 + (s.be32At a).toNat)) := by
  have hsize : (s.be32At a).toNat ≠ n - 12 ↔ 12 + (s.be32At a).toNat ≠ n := by omega
  rw [State.memRead_add, Nat.add_assoc a 4 4, State.parseFrame, if_neg (by omega)]
  dsimp only
  rw [if_neg (by omega), if_congr hsize rfl rfl]

/-- The chunks' frames are the regions that parse_frame accepts (42_chunk.md R161). -/
theorem State.parseFrame_accepts_iff {s : State} {a n : Nat} (hn : n < 2 ^ 32) :
    (∃ l t c, s.parseFrame a n = .ok l t c) ↔ ∃ c : Chunk, c.wf ∧ s.memRead a n = c.wire := by
  constructor
  · rintro ⟨l, t, c, hparse⟩
    exact ⟨⟨_, _⟩, s.memRead_length _ 4, State.memRead_of_parseFrame_ok hparse⟩
  · rintro ⟨c, hwf, hread⟩
    have hlen : n = 12 + c.data.length := by
      rw [← s.memRead_length a n, hread]
      exact frameBytes_length _ _ hwf
    subst hlen
    exact ⟨_, _, _, (State.parseFrame_of_frame hwf (by omega) hread).1⟩

/-! ### How CHUNK_VERIFY ends -/

/-- A region outside IBUF (42_chunk.md R165). -/
theorem exec_chunkVerify_of_not_inRange {s : State} (hr : ¬ s.inRange s.srcN s.lenN) :
    exec .chunkVerify s = .next (s.raiseError .range 0) := by
  rw [exec_eq_finish, commandBody, chunkVerifyBody, if_neg hr, finish_raise]

/-- CHUNK_VERIFY leaves what parse_frame found in the result registers (42_chunk.md R165, R166). -/
theorem exec_chunkVerify_of_ok {s : State} (hclear : s.IssueClear) (hr : s.inRange s.srcN s.lenN) {l t c : Word}
    (h : s.parseFrame s.srcN s.lenN = .ok l t c) :
    exec .chunkVerify s = .next ((s.setResult s.src l t c).raiseError .noError 0) := by
  have hclear' : (s.setResult s.src l t c).IssueClear := hclear
  rw [exec_eq_finish, commandBody, chunkVerifyBody, if_pos hr, h, ← hclear'.complete]
  rfl

/-- CHUNK_VERIFY reports NONE exactly for a region in IBUF that parse_frame accepts. -/
theorem exec_chunkVerify_noError_iff {s t : State} (hclear : s.IssueClear) (h : exec .chunkVerify s = .next t) :
    t.err = .noError ↔ s.inRange s.srcN s.lenN ∧ ∃ l ty c, s.parseFrame s.srcN s.lenN = .ok l ty c := by
  by_cases hr : s.inRange s.srcN s.lenN
  · cases hparse : s.parseFrame s.srcN s.lenN with
    | ok l ty c =>
      rw [exec_chunkVerify_of_ok hclear hr hparse] at h
      cases h
      exact iff_of_true rfl ⟨hr, l, ty, c, rfl⟩
    | err code =>
      rw [exec_chunkVerify_of_err hr hparse] at h
      cases h
      have hcode : code ≠ .noError := by rcases State.parseFrame_err hparse with rfl | rfl | rfl <;> decide
      exact iff_of_false hcode nofun
  · rw [exec_chunkVerify_of_not_inRange hr] at h
    cases h
    exact iff_of_false nofun fun ⟨hin, _⟩ => hr hin

/-- Settles O28: the range test, then parse_frame's answer on each of its paths. -/
theorem chunkVerifyChecksInOrder : Obligations.ChunkVerifyChecksInOrder := by
  unfold Obligations.ChunkVerifyChecksInOrder
  refine ⟨decode_encode .chunkVerify, fun s l hclear hl => ?_⟩
  subst hl
  refine ⟨fun hout => exec_chunkVerify_of_not_inRange (Nat.not_le_of_lt hout), fun hr =>
    ⟨fun hshort => exec_chunkVerify_of_err hr (State.parseFrame_of_short hshort), fun hfits => ?_⟩⟩
  have hparse := State.parseFrame_of_fits hfits
  refine ⟨fun hcrc => ?crc, fun hcrc => ⟨fun hsize => ?size, fun hsize => ?accepted⟩⟩
  case crc =>
    rw [if_pos hcrc] at hparse
    exact exec_chunkVerify_of_err hr hparse
  case size =>
    rw [if_neg (not_not_intro hcrc), if_pos hsize] at hparse
    exact exec_chunkVerify_of_err hr hparse
  case accepted =>
    rw [if_neg (not_not_intro hcrc), if_neg (not_not_intro hsize)] at hparse
    exact exec_chunkVerify_of_ok hclear hr hparse

/-- Settles O29: CHUNK_VERIFY accepts what parse_frame accepts, and that is the chunks' frames. -/
theorem chunkVerifyAcceptsExactlyFrames : Obligations.ChunkVerifyAcceptsExactlyFrames := by
  unfold Obligations.ChunkVerifyAcceptsExactlyFrames
  intro s t hclear h
  rw [exec_chunkVerify_noError_iff hclear h, State.parseFrame_accepts_iff s.len.isLt]

/-! ### A changed length field -/

theorem State.memRead_take (s : State) (a : Nat) {m n : Nat} (h : m ≤ n) : (s.memRead a n).take m = s.memRead a m := by
  obtain ⟨k, rfl⟩ := Nat.exists_eq_add_of_le h
  rw [State.memRead_add, List.take_left' (s.memRead_length a m)]

/-- A frame after its length field: the type and the data, and their CRC (42_chunk.md R160). -/
theorem Chunk.wire_drop_four (c : Chunk) :
    c.wire.drop 4 = (c.type ++ c.data) ++ bytesBE32 c.crc := by
  rw [Chunk.wire, frameBytes, List.append_assoc, List.append_assoc, List.drop_left' (bytesBE32_length _), Chunk.crc,
    List.append_assoc]

/-- The bytes that a frame's CRC covers when its length field is lowered to n (42_chunk.md R168). -/
theorem State.memRead_shortened_frame {s : State} {a n : Nat} {c : Chunk} (hwf : c.wf) (hn : n ≤ c.data.length)
    (hread : s.memRead a (8 + c.data.length) = c.wire.drop 4) :
    s.memRead a (4 + n) = c.type ++ c.data.take n := by
  rw [← s.memRead_take a (show 4 + n ≤ 8 + c.data.length by omega), hread, Chunk.wire_drop_four, List.append_assoc,
    ← hwf, List.take_length_add_append, List.take_append_of_le_length hn]

/-- Settles O31: a raised length field leaves the region too short, and a lowered one too long, if the CRC test has not
failed before. -/
theorem lengthIntegrity : Obligations.LengthIntegrity := by
  unfold Obligations.LengthIntegrity
  intro s c l' hwf _ hlen hr hfield hread
  have hl : s.be32At s.srcN = l' := State.be32At_of_memRead hfield
  subst hl
  refine ⟨fun hraised => ?_, fun hlowered => ?_⟩
  · have hparse : s.parseFrame s.srcN s.lenN = .err .truncated := State.parseFrame_of_short (by omega)
    exact ⟨_, exec_chunkVerify_of_err hr hparse, rfl, rfl, rfl, rfl⟩
  · have hsize : 12 + (s.be32At s.srcN).toNat ≠ s.lenN := by omega
    have hparse := State.parseFrame_of_fits (s := s) (a := s.srcN) (n := s.lenN) (by omega)
    rw [State.memRead_shortened_frame hwf hlowered.le hread, if_pos hsize, ite_not, ← apply_ite FrameResult.err]
      at hparse
    exact ⟨_, exec_chunkVerify_of_err hr hparse, rfl, rfl, rfl, rfl⟩

/-! ### What CHUNK_NEW stores -/

/-- The bytes that a command stores in OBUF stand there from OPTR on. -/
theorem exec_obufByte_inside {i : Instr} {s t : State} (h : exec i s = .next t) {k : Nat}
    (hk : k < (s.obufWrite i).length) : t.bufByte .obuf (s.optrN + k) = (s.obufWrite i)[k] := by
  rw [State.bufByte_eq, State.buf, exec_obuf h, Memory.byteAt_storeBytes_inside hk, Option.getD_some]

/-- CHUNK_NEW that fits leaves its frame in OBUF from OPTR on (42_chunk.md R164). -/
theorem exec_chunkNew_obufByte {s t : State} (hfits : s.newFrameFits) (h : exec .chunkNew s = .next t) {k : Nat}
    (hk : k < 12 + s.lenN) : t.bufByte .obuf (s.optrN + k) = s.newFrame.getD k 0 := by
  have hwrite : s.obufWrite .chunkNew = s.newFrame := if_pos hfits
  rw [← State.obufWrite_chunkNew_length hfits] at hk
  rw [exec_obufByte_inside h hk, ← List.getD_eq_getElem _ 0 hk, hwrite]

/-- s with what a CHUNK_NEW that fits writes: the frame in OBUF, the result, OPTR past the frame (42_chunk.md R164). -/
def State.storeNewFrame (s : State) : State :=
  { (s.memWrite s.optrN s.newFrame).setResult s.optr s.len (s.be32At s.srcN)
      (crc32 (s.memRead s.srcN (4 + s.lenN))) with optr := toReg (s.optrN + 12 + s.lenN) }

theorem exec_chunkNew_of_fits {s : State} (hclear : s.IssueClear) (hfits : s.newFrameFits) :
    exec .chunkNew s = .next (s.storeNewFrame.raiseError .noError 0) := by
  have hclear' : s.storeNewFrame.IssueClear := hclear
  rw [exec_eq_finish, commandBody, chunkNewBody, if_pos hfits, ← State.memRead_add, ← hclear'.complete]
  rfl

/-- The new frame: the length, the 4 + LEN bytes from SRC, and their CRC (42_chunk.md R160, R164). -/
theorem State.newFrame_eq (s : State) :
    s.newFrame = bytesBE32 s.len
      ++ (s.memRead s.srcN (4 + s.lenN) ++ bytesBE32 (crc32 (s.memRead s.srcN (4 + s.lenN)))) := by
  rw [State.newFrame, frameBytes, State.memRead_length, toReg_toNat, State.memRead_add]
  simp only [List.append_assoc]

theorem State.newFrame_getD_length (s : State) {k : Nat} (hk : k < 4) :
    s.newFrame.getD k 0 = (bytesBE32 s.len).getD k 0 := by
  rw [State.newFrame_eq, List.getD_append _ _ _ _ hk]

theorem State.newFrame_getD_body (s : State) {k : Nat} (hk : k < 4 + s.lenN) :
    s.newFrame.getD (4 + k) 0 = s.bufByte .ibuf (s.srcN + k) := by
  rw [← s.memRead_length s.srcN (4 + s.lenN)] at hk
  rw [State.newFrame_eq, List.getD_append_right _ _ _ _ (Nat.le_add_right 4 k), bytesBE32_length,
    Nat.add_sub_cancel_left, List.getD_append _ _ _ _ hk, List.getD_eq_getElem _ _ hk, State.memRead_getElem]

theorem State.newFrame_getD_crc (s : State) (k : Nat) :
    s.newFrame.getD (8 + s.lenN + k) 0 = (bytesBE32 (crc32 (s.memRead s.srcN (4 + s.lenN)))).getD k 0 := by
  have hlen : (bytesBE32 s.len ++ s.memRead s.srcN (4 + s.lenN)).length = 8 + s.lenN := by
    rw [List.length_append, bytesBE32_length, State.memRead_length]
    omega
  rw [State.newFrame_eq, ← List.append_assoc, List.getD_append_right _ _ _ _ (by omega), hlen, Nat.add_sub_cancel_left]

/-- Settles O27: CHUNK_NEW stores the new frame, part by part, when both ranges fit, and else only raises. -/
theorem chunkNewWritesTheFrame : Obligations.ChunkNewWritesTheFrame := by
  unfold Obligations.ChunkNewWritesTheFrame
  refine ⟨decode_encode .chunkNew, fun s hclear hp => ⟨fun hsrc hdst => ?fits, fun hout => ?range⟩⟩
  case fits =>
    have hexec := exec_chunkNew_of_fits hclear ⟨hsrc, hdst⟩
    have hbyte (k : Nat) (hk : k < 12 + s.lenN) := exec_chunkNew_obufByte ⟨hsrc, hdst⟩ hexec hk
    refine ⟨_, hexec, ⟨rfl, rfl, rfl, rfl⟩, ⟨rfl, rfl, rfl, rfl⟩, ?optr, fun k hk => ?len, fun k hk => ?body,
      fun k hk => ?crc, rfl⟩
    case optr =>
      have := bufSize_legal hp
      exact toNat_toReg (by omega)
    case len => rw [hbyte k (by omega), s.newFrame_getD_length hk]
    case body => rw [Nat.add_assoc, hbyte _ (by omega), s.newFrame_getD_body hk]
    case crc => rw [Nat.add_assoc, Nat.add_assoc, ← Nat.add_assoc 8, hbyte _ (by omega), s.newFrame_getD_crc]
  case range => exact exec_chunkNew_of_not_fits (by omega)

/-! ### The round trip -/

/-- Two regions that read the same have the same bytes. -/
theorem State.bufByte_of_memRead {s t : State} {a b n k : Nat} (h : t.memRead b n = s.memRead a n) (hk : k < n) :
    t.bufByte .ibuf (b + k) = s.bufByte .ibuf (a + k) := by
  rw [← s.memRead_getElem a n k (by rwa [s.memRead_length]), ← t.memRead_getElem b n k (by rwa [t.memRead_length])]
  exact List.getElem_of_eq h _

/-- Settles O30: the region in IBUF reads as the new frame, which parse_frame accepts. -/
theorem chunkRoundTrip : Obligations.ChunkRoundTrip := by
  unfold Obligations.ChunkRoundTrip
  intro s t u hs ht herr hu hlen hr hcopy
  have hfits : s.newFrameFits := by
    by_contra hout
    rw [exec_chunkNew_of_not_fits hout] at ht
    cases ht
    cases herr
  have hread : u.memRead u.srcN (12 + s.lenN) = s.newFrame := by
    refine List.ext_getElem (by rw [State.memRead_length, State.newFrame_length]) fun k hk hk' => ?_
    rw [State.memRead_length] at hk
    rw [State.memRead_getElem, hcopy k hk, exec_chunkNew_obufByte hfits ht hk, List.getD_eq_getElem _ _ hk']
  have hdata : (s.memRead (s.srcN + 4) s.lenN).length = s.lenN := s.memRead_length _ _
  have hframe := State.parseFrame_of_frame (s := u) (a := u.srcN) (s.memRead_length s.srcN 4)
    (by rw [hdata]; exact s.len.isLt) (by rw [hdata]; exact hread)
  rw [hdata, ← hlen, toReg_toNat, ← State.memRead_add] at hframe
  obtain ⟨hparse, htype, hcopied⟩ := hframe
  have htype' : u.be32At (u.srcN + 4) = s.be32At s.srcN :=
    State.be32At_of_memRead (by rw [htype, State.bytesBE32_be32At])
  rw [exec_chunkNew_of_fits hs hfits] at ht
  cases ht
  exact ⟨_, exec_chunkVerify_of_ok hu hr hparse, ⟨rfl, rfl, rfl, rfl⟩, ⟨rfl, rfl, htype', rfl⟩,
    fun k hk => State.bufByte_of_memRead hcopied hk⟩

end Sys2Proof.Machine

namespace Sys2Proof.Machine

/-! ### The moves of CSTATE

A completion leaves the session as the body left it, so that the transitions of 43_container.md R192 are facts about the
bodies of the three CONT commands: which session state each of their endings goes with. -/

/-- A CONT command's body ends so: completed, in the session state that CURSOR and CLEN give; or raised, and FAILED
(43_container.md R192). -/
def BodyMoves (moved : Word → Word → CState) : State × Ending → Prop
  | (t, .complete) => t.cstate = moved t.cursor t.clen
  | (t, .raise code _) => t.cstate = .failed ∧ code ≠ .noError

/-- From ERR = 0, ERR after the completion tells the two endings apart (60_exceptions.md R224). -/
theorem BodyMoves.finish {moved : Word → Word → CState} {r : State × Ending} (h : BodyMoves moved r)
    (herr : r.1.err = .noError) :
    if (finish r).err = .noError then (finish r).cstate = moved (finish r).cursor (finish r).clen
    else (finish r).cstate = .failed := by
  match r, h with
  | (_, .complete), h => exact (if_pos herr).mpr h
  | (_, .raise _ _), ⟨hfailed, hcode⟩ => exact (if_neg hcode).mpr hfailed

/-- CONT_BEGIN's body leaves the session OPEN, or ENDED with the signature alone (43_container.md R193). -/
theorem contBeginBody_moves (s : State) :
    BodyMoves (fun _ clen => if clen.toNat = 8 then .ended else .opened) (contBeginBody s) := by
  rcases contBeginBody_cases s with ⟨-, e⟩ | ⟨-, -, e⟩ | ⟨-, -, -, e⟩ <;> rw [e]
  · exact ⟨rfl, by decide⟩
  · exact ⟨rfl, by decide⟩
  · rfl

/-- CONT_NEXT's body leaves an OPEN session OPEN, or ENDED with CURSOR at CLEN (43_container.md R194). -/
theorem contNextBody_moves {s : State} (ho : s.cstate = .opened) :
    BodyMoves (fun cursor clen => if cursor = clen then .ended else .opened) (contNextBody s) := by
  rcases contNextBody_open ho with ⟨-, e⟩ | ⟨-, -, e⟩ | ⟨-, -, e⟩ <;> rw [e]
  · exact ⟨rfl, by decide⟩
  · exact ⟨rfl, by decide⟩
  · rw [BodyMoves, ← ho]
    rfl

/-- CONT_VERIFY's loop goes on while the session is OPEN, and stops with it ENDED (43_container.md R195). -/
theorem contVerifyBody_moves (s : State) : BodyMoves (fun _ _ => .ended) (contVerifyBody s) := by
  have hbegin {t : State} {e : Ending} (h : contBeginBody s = (t, e)) := h ▸ contBeginBody_moves s
  have hnext {u t : State} {e : Ending} (ho : u.cstate = .opened) (h : contNextBody u = (t, e)) :=
    h ▸ contNextBody_moves ho
  refine contVerifyBody_rule (P := fun u => u.cstate = .ended ∨ u.cstate = .opened) (Q := BodyMoves fun _ _ => .ended)
    ?begin_fails ?begins ?pass ?fail ?stop
  case begin_fails => exact fun _ _ _ h => hbegin h
  case begins => exact fun t h => (hbegin h : t.cstate = ite ..) ▸ ite_eq_or_eq ..
  case pass => exact fun _ t _ ho h => (hnext ho h : t.cstate = ite ..) ▸ ite_eq_or_eq ..
  case fail => exact fun _ _ _ _ _ ho h => hnext ho h
  case stop => exact fun _ hu ho => hu.resolve_right ho

theorem exec_sessionMove {i : Instr} {s t : State} (hs : s.err = .noError) (h : exec i s = .next t) :
    SessionMove i s t := by
  have hexec := h
  rw [exec_eq_finish] at hexec
  have herr : (commandBody i s).1.err = .noError := (commandBody_bounds i s).writes.err_same.trans hs
  cases i with
  | nop | crcInit | crcRange =>
    obtain ⟨-, -, hsession, -⟩ := frameOfCrcFamily _ s t (by decide) h
    exact hsession.cstate
  | tagLoadText | tagLoadBytes =>
    obtain ⟨-, -, hsession, -⟩ := frameOfTagFamily _ s t (by decide) h
    exact hsession.cstate
  | chunkNew =>
    obtain ⟨-, hsession, -⟩ := frameOfChunkFamily.1 s t h
    exact hsession.cstate
  | chunkVerify =>
    obtain ⟨-, -, hsession, -⟩ := frameOfChunkFamily.2 s t h
    exact hsession.cstate
  | sigEmit =>
    obtain ⟨-, hsession, -⟩ := frameOfContainerFamily.2.2 s t h
    exact hsession.cstate
  | contBegin =>
    cases hexec
    exact (contBeginBody_moves s).finish herr
  | contVerify =>
    cases hexec
    exact (contVerifyBody_moves s).finish herr
  | contNext =>
    cases hexec
    by_cases ho : s.cstate = .opened
    · rw [SessionMove, if_pos ho]
      exact (contNextBody_moves ho).finish herr
    · rw [SessionMove, if_neg ho, commandBody, contNextBody_closed ho]
      exact ⟨rfl, rfl⟩

/-- A host write leaves CSTATE, unless it is the soft reset (43_container.md R192). -/
theorem State.writeTarget_cstate (s : State) {v : Word} {g : Target} (hsoft : g = .register .ctrl → v.getLsbD 1 = false) :
    (s.writeTarget v g).cstate = s.cstate := by
  cases g with
  | busError => rfl
  | register r =>
    rw [State.writeTarget]
    split
    · rfl
    · cases r with
      | ctrl => rw [State.writeReg, State.writeCtrl, if_neg (ne_true_of_eq_false (hsoft rfl))]
      | _ => rfl
  | byte b a | word b a =>
    rw [State.writeTarget]
    split
    · rfl
    · cases b <;> rfl

theorem State.readTarget_cstate (s : State) (g : Target) : (s.readTarget g).cstate = s.cstate := by
  obtain ⟨_, _, _, h⟩ := s.readTarget_eq g
  rw [h]

/-- A host address in the region is that of its offset (20_memory.md R73). -/
theorem State.eq_hostAddr_of_regionOffset {s : State} {addr o : Nat} (h : regionOffset s.params addr = some o) :
    addr = s.hostAddr o := by
  unfold regionOffset at h
  split at h
  · next hin =>
    cases h
    exact (Nat.add_sub_cancel' hin.1).symm
  · cases h

/-- No host access but a soft reset changes CSTATE (43_container.md R192). -/
theorem State.hostAccess_cstate (s : State) {a : Access}
    (hsoft : ∀ v, v.getLsbD 1 = true → a ≠ .write .w32 (s.hostAddr 0x008) v) : (s.hostAccess a).cstate = s.cstate := by
  cases a with
  | read w addr =>
    rw [State.hostAccess]
    split
    · rfl
    · split
      · rfl
      · exact s.readTarget_cstate _
  | write w addr v =>
    rw [State.hostAccess]
    split
    · rfl
    · next o ho =>
      split
      · rfl
      · refine s.writeTarget_cstate fun htarget => Bool.eq_false_iff.2 fun hv => hsoft v hv ?_
        obtain ⟨rfl, hreg⟩ := targetAt_eq_register htarget
        rw [State.eq_hostAddr_of_regionOffset ho, regAt_eq_ctrl hreg]

/-- Settles O33: the commands move CSTATE by their bodies, and of the accesses and the reset input only the two resets do. -/
theorem sessionTransitions : Obligations.SessionTransitions := by
  unfold Obligations.SessionTransitions
  refine ⟨fun i s t hclear h => exec_sessionMove hclear.1 h, fun s a hsoft => s.hostAccess_cstate hsoft,
    fun s v hr hv => ?soft, fun s hr => ?release⟩
  case soft =>
    rw [State.write_ctrl hr, State.writeCtrl, if_pos hv]
    rfl
  case release =>
    rw [State.releaseReset, if_pos hr]
    rfl

/-! ### How CONT_BEGIN and SIG_EMIT end -/

theorem State.signatureGood_iff (s : State) : s.signatureGood = true ↔ s.memRead 0 8 = Config.pngSig := beq_iff_eq

/-- A container that is larger than IBUF (43_container.md R193). -/
theorem contBeginBody_of_range {s : State} (h : s.params.bufSize < s.ibufLenN) : contBeginBody s
    = (s.withSession .failed 0 0 0, .raise .range 0) := by
  rw [contBeginBody, if_pos h, State.withSession]

/-- A container that does not start with the signature (43_container.md R193). -/
theorem contBeginBody_of_badSignature {s : State} (hsize : s.ibufLenN ≤ s.params.bufSize)
    (h : s.ibufLenN < 8 ∨ s.memRead 0 8 ≠ Config.pngSig) : contBeginBody s
    = (s.withSession .failed 0 s.ibufLen 0, .raise .badSignature 0) := by
  have hbad := h.imp_right fun hne => Bool.eq_false_iff.2 fun hgood => hne (s.signatureGood_iff.1 hgood)
  rw [contBeginBody, if_neg (Nat.not_lt_of_le hsize), if_pos hbad, State.withSession]

/-- A container that starts with the signature (43_container.md R193). -/
theorem contBeginBody_of_signature {s : State} (hsize : s.ibufLenN ≤ s.params.bufSize) (hlen : 8 ≤ s.ibufLenN)
    (hsig : s.memRead 0 8 = Config.pngSig) : contBeginBody s
    = (s.withSession (if s.ibufLenN = 8 then .ended else .opened) 8 s.ibufLen 0, .complete) := by
  have hgood : ¬ (s.ibufLenN < 8 ∨ s.signatureGood = false) :=
    not_or.2 ⟨Nat.not_lt_of_le hlen, ne_false_of_eq_true (s.signatureGood_iff.2 hsig)⟩
  rw [contBeginBody, if_neg (Nat.not_lt_of_le hsize), if_neg hgood, State.withSession]

/-- Settles O34: the three ends of CONT_BEGIN's body. -/
theorem contBeginOpensASession : Obligations.ContBeginOpensASession := by
  unfold Obligations.ContBeginOpensASession
  refine ⟨decode_encode .contBegin, fun s hclear => ⟨fun hrange => ?range, fun hsize hbad => ?bad,
    fun hsize hlen hsig => ?good⟩⟩ <;> rw [exec_eq_finish, commandBody]
  case range => rw [contBeginBody_of_range hrange, finish_raise, State.raiseError, State.withSession]
  case bad => rw [contBeginBody_of_badSignature hsize hbad, finish_raise, State.raiseError, State.withSession]
  case good =>
    have hclear' : (s.withSession (if s.ibufLenN = 8 then .ended else .opened) 8 s.ibufLen 0).IssueClear := hclear
    rw [contBeginBody_of_signature hsize hlen hsig, finish_complete, hclear'.complete, State.raiseError,
      State.withSession]

/-- CONT_VERIFY raises what CONT_BEGIN's body raises, before any frame (43_container.md R195). -/
theorem contVerifyBody_of_begin_raises {s t : State} {code : ErrCode} {off : Word}
    (h : contBeginBody s = (t, .raise code off)) : contVerifyBody s = (t, .raise code off) := by
  rw [contVerifyBody, h]

/-- Settles O59: CONT_VERIFY ends with the two errors of CONT_BEGIN's body. -/
theorem contVerifyRefusesABadSignature : Obligations.ContVerifyRefusesABadSignature := by
  unfold Obligations.ContVerifyRefusesABadSignature
  refine fun s _ => ⟨fun hrange => ?range, fun hsize hbad => ?bad⟩ <;> rw [exec_eq_finish, commandBody]
  case range =>
    rw [contVerifyBody_of_begin_raises (contBeginBody_of_range hrange), finish_raise, State.raiseError,
      State.withSession]
  case bad =>
    rw [contVerifyBody_of_begin_raises (contBeginBody_of_badSignature hsize hbad), finish_raise, State.raiseError,
      State.withSession]

/-- s with what a SIG_EMIT that fits writes: PNG_SIG in OBUF, OPTR past it (43_container.md R196). -/
def State.storeSignature (s : State) : State :=
  { s.memWrite s.optrN Config.pngSig with optr := toReg (s.optrN + 8) }

theorem exec_sigEmit_of_fits {s : State} (hclear : s.IssueClear) (hfits : s.inRange s.optrN 8) :
    exec .sigEmit s = .next (s.storeSignature.raiseError .noError 0) := by
  have hclear' : s.storeSignature.IssueClear := hclear
  rw [exec_eq_finish, commandBody, sigEmitBody, if_pos hfits, ← hclear'.complete]
  rfl

/-- Settles O40: SIG_EMIT stores PNG_SIG from OPTR on when it fits, and else only raises. -/
theorem sigEmitWritesTheSignature : Obligations.SigEmitWritesTheSignature := by
  unfold Obligations.SigEmitWritesTheSignature
  refine ⟨decode_encode .sigEmit, fun s hclear hp => ⟨fun hfits => ?fits, fun hout => ?range⟩⟩
  case fits =>
    have hexec := exec_sigEmit_of_fits hclear hfits
    have hwrite : s.obufWrite .sigEmit = Config.pngSig := if_pos hfits
    refine ⟨_, hexec, ⟨rfl, rfl, rfl, rfl⟩, ?optr, rfl, fun k hk => ?byte⟩
    case optr =>
      have := bufSize_legal hp
      exact toNat_toReg (by omega)
    case byte =>
      have hk' : k < (s.obufWrite .sigEmit).length := by rwa [State.obufWrite_sigEmit_length hfits]
      rw [exec_obufByte_inside hexec hk', ← List.getD_eq_getElem _ 0 hk', hwrite]
  case range => exact exec_sigEmit_of_not_fits (Nat.not_le_of_lt hout)

/-! ### What CONT_NEXT finds at CURSOR -/

/-- The frame that the length field at CURSOR tells of runs past CLEN (43_container.md R194). -/
theorem State.frameAtCursor_of_short {s : State} (h : s.clenN < s.cursorN + 12 + (s.be32At s.cursorN).toNat) :
    s.frameAtCursor = .err .truncated := by
  unfold State.frameAtCursor
  by_cases hshort : s.clenN - s.cursorN < 12
  · rw [if_pos hshort]
  · rw [if_neg hshort, if_pos (by omega)]

/-- With that frame below CLEN only its CRC can be wrong (43_container.md R194). -/
theorem State.frameAtCursor_of_fits {s : State} (h : s.cursorN + 12 + (s.be32At s.cursorN).toNat ≤ s.clenN) :
    s.frameAtCursor = s.parseFrame s.cursorN (12 + (s.be32At s.cursorN).toNat) := by
  rw [State.frameAtCursor, if_neg (by omega), if_neg (by omega)]

/-- A frame of the size that its length field gives: only its CRC can be wrong (42_chunk.md R162). -/
theorem State.parseFrame_of_badCrc {s : State} {a : Nat}
    (h : crc32 (s.memRead (a + 4) (4 + (s.be32At a).toNat)) ≠ s.be32At (a + 8 + (s.be32At a).toNat)) :
    s.parseFrame a (12 + (s.be32At a).toNat) = .err .crcMismatch := by
  rw [State.parseFrame_of_fits (Nat.le_refl _), if_pos h]

theorem State.parseFrame_of_goodCrc {s : State} {a : Nat}
    (h : crc32 (s.memRead (a + 4) (4 + (s.be32At a).toNat)) = s.be32At (a + 8 + (s.be32At a).toNat)) :
    s.parseFrame a (12 + (s.be32At a).toNat)
      = .ok (s.be32At a) (s.be32At (a + 4)) (s.be32At (a + 8 + (s.be32At a).toNat)) := by
  rw [State.parseFrame_of_fits (Nat.le_refl _), if_neg (not_not_intro h), if_neg (not_not_intro rfl)]

/-- A bad frame at CURSOR fails the session there (43_container.md R194). -/
theorem contNextBody_of_err {s : State} {code : ErrCode} (ho : s.cstate = .opened) (h : s.frameAtCursor = .err code) :
    contNextBody s = frameError s code := by
  rw [contNextBody_eq_takeFrame ho, h, takeFrame]

/-- A good frame at CURSOR is taken (43_container.md R194). -/
theorem contNextBody_of_ok {s : State} {l t c : Word} (ho : s.cstate = .opened) (h : s.frameAtCursor = .ok l t c) :
    contNextBody s = (acceptFrame s l t c, .complete) := by
  rw [contNextBody_eq_takeFrame ho, h, takeFrame]

/-- Settles O35: CONT_NEXT's ends by what it finds at CURSOR. -/
theorem contNextTakesOneFrame : Obligations.ContNextTakesOneFrame := by
  unfold Obligations.ContNextTakesOneFrame
  refine ⟨decode_encode .contNext, fun s l hclear hl => ?_⟩
  subst hl
  rw [exec_eq_finish, commandBody]
  refine ⟨fun hclosed => ?closed, fun ho => ⟨fun hshort => ?short, fun hfits => ⟨fun hcrc => ?crc, fun hcrc => ?good⟩⟩⟩
  case closed => rw [contNextBody_closed hclosed, finish_raise, State.raiseError]
  case short =>
    rw [contNextBody_of_err ho (State.frameAtCursor_of_short (by omega))]
    rfl
  case crc =>
    have hframe := State.frameAtCursor_of_fits hfits
    rw [State.parseFrame_of_badCrc hcrc] at hframe
    rw [contNextBody_of_err ho hframe]
    rfl
  case good =>
    have hframe := State.frameAtCursor_of_fits hfits
    rw [State.parseFrame_of_goodCrc hcrc] at hframe
    have hcursor := acceptFrame_cursorN (s := s) (l := s.be32At s.cursorN) (t := s.be32At (s.cursorN + 4))
      (c := s.be32At (s.cursorN + 8 + (s.be32At s.cursorN).toNat)) (by omega)
    rw [contNextBody_of_ok ho hframe]
    refine ⟨_, rfl, ⟨rfl, rfl, hclear.1, hclear.2⟩, ⟨rfl, rfl, rfl, rfl⟩, hcursor, rfl, rfl, ?_⟩
    rw [← hcursor, ← ho]
    exact if_congr (BitVec.toNat_inj).symm rfl rfl

/-! ### Frames in IBUF -/

/-- The frame of c stands whole in IBUF, from offset a on and below n (43_container.md R194). -/
structure State.FrameAt (s : State) (a n : Nat) (c : Chunk) : Prop where
  wf : c.wf
  fits : a + c.wire.length ≤ n
  read : s.memRead a c.wire.length = c.wire

theorem Chunk.wire_length {c : Chunk} (h : c.wf) : c.wire.length = 12 + c.data.length := frameBytes_length _ _ h

/-- The packed type is the four type bytes (41_tag.md R140). -/
theorem Chunk.bytesBE32_packedType {c : Chunk} (h : c.wf) : bytesBE32 c.packedType = c.type := by
  obtain ⟨b0, b1, b2, b3, htype⟩ := List.length_eq_four.1 h
  rw [Chunk.packedType, bytesBE32_be32, htype]
  rfl

/-- parse_frame finds the chunk whose frame stands there (42_chunk.md R162). -/
theorem State.FrameAt.parseFrame {s : State} {a n : Nat} {c : Chunk} (h : s.FrameAt a n c) (hn : n < 2 ^ 32) :
    s.parseFrame a (12 + c.data.length) = .ok (toReg c.data.length) c.packedType c.crc := by
  obtain ⟨hwf, hfits, hread⟩ := h
  rw [Chunk.wire_length hwf] at hfits hread
  obtain ⟨hparse, htype, -⟩ := State.parseFrame_of_frame hwf (by omega) hread
  rwa [State.be32At_of_memRead (htype.trans (Chunk.bytesBE32_packedType hwf).symm)] at hparse

/-- CONT_NEXT finds the chunk whose frame stands at CURSOR, below CLEN. -/
theorem State.FrameAt.frameAtCursor {s : State} {c : Chunk} (h : s.FrameAt s.cursorN s.clenN c) :
    s.frameAtCursor = .ok (toReg c.data.length) c.packedType c.crc := by
  have hparse := h.parseFrame s.clen.isLt
  have hfits := h.fits
  have hclen : s.clenN < 2 ^ 32 := s.clen.isLt
  rw [Chunk.wire_length h.wf] at hfits
  obtain ⟨-, hlen, -⟩ := State.parseFrame_ok hparse
  have hfield : (s.be32At s.cursorN).toNat = c.data.length := by rw [← hlen, toNat_toReg (by omega)]
  rw [State.frameAtCursor_of_fits (by omega), hfield, hparse]

/-- CONT_NEXT finds nothing but a chunk's frame (42_chunk.md R161). -/
theorem State.frameAt_of_frameAtCursor {s : State} {l t crc : Word} (h : s.frameAtCursor = .ok l t crc) :
    ∃ c, s.FrameAt s.cursorN s.clenN c := by
  have hfits : s.cursorN + 12 + (s.be32At s.cursorN).toNat ≤ s.clenN := by
    by_contra hshort
    rw [State.frameAtCursor_of_short (Nat.lt_of_not_le hshort)] at h
    cases h
  have hclen : s.clenN < 2 ^ 32 := s.clen.isLt
  rw [State.frameAtCursor_of_fits hfits] at h
  obtain ⟨c, hwf, hread⟩ := (State.parseFrame_accepts_iff (by omega)).1 ⟨l, t, crc, h⟩
  have hlen : c.wire.length = 12 + (s.be32At s.cursorN).toNat := by rw [← hread, State.memRead_length]
  exact ⟨c, hwf, by omega, by rw [hlen, hread]⟩

/-- MemRead gives two sequences in a row exactly when it gives the first, and after it the second. -/
theorem State.memRead_eq_append_iff (s : State) (a : Nat) (x y : List Byte) :
    s.memRead a (x ++ y).length = x ++ y
      ↔ s.memRead a x.length = x ∧ s.memRead (a + x.length) y.length = y := by
  rw [List.length_append, State.memRead_add]
  exact ⟨fun h => List.append_inj h (s.memRead_length a _), fun ⟨hx, hy⟩ => by rw [hx, hy]⟩

/-- IBUF[0..IBUF_LEN] lies in IBUF and begins with the container of cs (43_container.md R190). -/
structure State.HoldsContainer (s : State) (cs : List Chunk) : Prop where
  size : s.ibufLenN ≤ s.params.bufSize
  wf : ∀ c ∈ cs, c.wf
  fits : (containerOf cs).length ≤ s.ibufLenN
  read : s.memRead 0 (containerOf cs).length = containerOf cs

theorem framesOf_append (cs ds : List Chunk) : framesOf (cs ++ ds) = framesOf cs ++ framesOf ds := by
  induction cs with
  | nil => rfl
  | cons c cs ih => rw [List.cons_append, framesOf, framesOf, ih, List.append_assoc]

theorem containerOf_concat (cs : List Chunk) (c : Chunk) : containerOf (cs ++ [c]) = containerOf cs ++ c.wire := by
  rw [containerOf, containerOf, framesOf_append, framesOf, framesOf, List.append_nil, List.append_assoc]

theorem containerOf_concat_length (cs : List Chunk) {c : Chunk} (h : c.wf) :
    (containerOf (cs ++ [c])).length = (containerOf cs).length + 12 + c.data.length := by
  rw [containerOf_concat, List.length_append, Chunk.wire_length h, Nat.add_assoc]

/-- The last frame of a container starts where the container without it ends. -/
theorem lastFrameOffset_concat (cs : List Chunk) (c : Chunk) :
    lastFrameOffset (cs ++ [c]) c = (containerOf cs).length := by
  rw [lastFrameOffset, containerOf_concat, List.length_append, Nat.add_sub_cancel]

/-- Each frame has bytes. -/
theorem length_le_containerOf_length (cs : List Chunk) : cs.length ≤ (containerOf cs).length := by
  have hwire (c : Chunk) : 0 < c.wire.length := Nat.succ_pos _
  have hframes : cs.length ≤ (framesOf cs).length := by
    induction cs with
    | nil => exact Nat.le_refl 0
    | cons c cs ih =>
      have := hwire c
      rw [framesOf, List.length_append, List.length_cons]
      omega
  rw [containerOf, List.length_append]
  omega

theorem State.holdsContainer_nil_iff (s : State) : s.HoldsContainer []
    ↔ s.ibufLenN ≤ s.params.bufSize ∧ 8 ≤ s.ibufLenN ∧ s.memRead 0 8 = Config.pngSig :=
  ⟨fun ⟨hsize, _, hfits, hread⟩ => ⟨hsize, hfits, hread⟩, fun ⟨hsize, hfits, hread⟩ => ⟨hsize, nofun, hfits, hread⟩⟩

/-- A container with one more chunk is a container and, right after it, the chunk's frame (43_container.md R190). -/
theorem State.holdsContainer_concat_iff (s : State) (cs : List Chunk) (c : Chunk) : s.HoldsContainer (cs ++ [c])
    ↔ s.HoldsContainer cs ∧ s.FrameAt (containerOf cs).length s.ibufLenN c := by
  have hread := s.memRead_eq_append_iff 0 (containerOf cs) c.wire
  have hlen : (containerOf (cs ++ [c])).length = (containerOf cs).length + c.wire.length := by
    rw [containerOf_concat, List.length_append]
  rw [← containerOf_concat, Nat.zero_add] at hread
  constructor
  · rintro ⟨hsize, hwf, hfits, hcs⟩
    rw [List.forall_mem_append, List.forall_mem_singleton] at hwf
    obtain ⟨hcs, hc⟩ := hread.1 hcs
    exact ⟨⟨hsize, hwf.1, by omega, hcs⟩, hwf.2, by omega, hc⟩
  · rintro ⟨⟨hsize, hwf, -, hcs⟩, hwf', hfits, hc⟩
    exact ⟨hsize, List.forall_mem_append.2 ⟨hwf, List.forall_mem_singleton.2 hwf'⟩, by omega, hread.2 ⟨hcs, hc⟩⟩

/-! ### CONT_VERIFY's loop -/

/-- s as CONT_VERIFY's loop has it when it has taken the frames of cs: the session after them, and the last of them as the
result (43_container.md R195). -/
def State.afterFrames (s : State) (cs : List Chunk) : State :=
  { s with
    clen := s.ibufLen
    cursor := toReg (containerOf cs).length
    chunkCount := toReg cs.length
    cstate := if s.ibufLenN = (containerOf cs).length then .ended else .opened
    resOff := cs.getLast?.elim s.resOff fun c => toReg (lastFrameOffset cs c)
    resLen := cs.getLast?.elim s.resLen fun c => toReg c.data.length
    resType := cs.getLast?.elim s.resType Chunk.packedType
    resCrc := cs.getLast?.elim s.resCrc Chunk.crc }

theorem State.memRead_afterFrames (s : State) (cs : List Chunk) (a n : Nat) :
    (s.afterFrames cs).memRead a n = s.memRead a n :=
  State.memRead_congr fun _ _ _ => rfl

theorem State.HoldsContainer.afterFrames_cursorN {s : State} {cs : List Chunk} (h : s.HoldsContainer cs) :
    (s.afterFrames cs).cursorN = (containerOf cs).length :=
  toNat_toReg (Nat.lt_of_le_of_lt h.fits s.ibufLen.isLt)

theorem State.HoldsContainer.afterFrames_chunkCount {s : State} {cs : List Chunk} (h : s.HoldsContainer cs) :
    (s.afterFrames cs).chunkCount.toNat = cs.length :=
  toNat_toReg (Nat.lt_of_le_of_lt ((length_le_containerOf_length cs).trans h.fits) s.ibufLen.isLt)

theorem State.afterFrames_cstate_eq_opened_iff (s : State) (cs : List Chunk) :
    (s.afterFrames cs).cstate = .opened ↔ s.ibufLenN ≠ (containerOf cs).length := by
  show ite .. = _ ↔ _
  split
  · next h => exact iff_of_false nofun (not_not_intro h)
  · next h => exact iff_of_true rfl h

/-- After the frames of cs the result registers describe the last of them (42_chunk.md R166). -/
theorem State.afterFrames_resultIs (s : State) {cs : List Chunk} {c : Chunk} (h : cs.getLast? = some c) :
    (s.afterFrames cs).ResultIs (toReg (lastFrameOffset cs c)) (toReg c.data.length) c.packedType c.crc := by
  constructor <;> simp only [State.afterFrames, h, Option.elim_some]

/-- CONT_BEGIN's body on a container that starts with the signature leaves the loop with no frame taken. -/
theorem State.HoldsContainer.contBeginBody {s : State} (h : s.HoldsContainer []) :
    contBeginBody s = (s.afterFrames [], .complete) := by
  obtain ⟨hsize, hlen, hsig⟩ := s.holdsContainer_nil_iff.1 h
  rw [contBeginBody_of_signature hsize hlen hsig]
  rfl

/-- CONT_BEGIN's body completes only on a container that starts with the signature. -/
theorem State.holdsContainer_nil_of_begin {s t : State} (h : contBeginBody s = (t, .complete)) : s.HoldsContainer [] := by
  rcases contBeginBody_cases s with ⟨-, e⟩ | ⟨-, -, e⟩ | ⟨hsize, hlen, hgood, -⟩
  · rw [e] at h; cases h
  · rw [e] at h; cases h
  · exact s.holdsContainer_nil_iff.2 ⟨hsize, hlen, s.signatureGood_iff.1 hgood⟩

/-- CURSOR stands at CLEN exactly after the whole of IBUF[0..IBUF_LEN]. -/
theorem State.HoldsContainer.cursor_eq_clen_iff {s : State} {cs : List Chunk} (h : s.HoldsContainer cs) :
    toReg (containerOf cs).length = s.ibufLen ↔ s.ibufLenN = (containerOf cs).length := by
  rw [← BitVec.toNat_inj, eq_comm]
  exact Eq.congr_right h.afterFrames_cursorN

/-- In the loop, accepting the frame that follows those of cs (43_container.md R194). -/
theorem acceptFrame_afterFrames {s : State} {cs : List Chunk} {c : Chunk} (h : s.HoldsContainer (cs ++ [c]))
    (ho : (s.afterFrames cs).cstate = .opened) :
    acceptFrame (s.afterFrames cs) (toReg c.data.length) c.packedType c.crc = s.afterFrames (cs ++ [c]) := by
  obtain ⟨hcs, hc⟩ := (s.holdsContainer_concat_iff cs c).1 h
  have hdata : (toReg c.data.length).toNat = c.data.length := by
    have hfits := hc.fits
    have hlen : s.ibufLenN < 2 ^ 32 := s.ibufLen.isLt
    rw [Chunk.wire_length hc.wf] at hfits
    exact toNat_toReg (by omega)
  have hnext : (s.afterFrames cs).cursorN + 12 + (toReg c.data.length).toNat = (containerOf (cs ++ [c])).length := by
    rw [hcs.afterFrames_cursorN, hdata, containerOf_concat_length cs hc.wf]
  have hcount : (s.afterFrames cs).chunkCount + 1 = toReg (cs ++ [c]).length := by
    rw [List.length_append]
    exact (BitVec.ofNat_add ..).symm
  have hclen : toReg (containerOf (cs ++ [c])).length = (s.afterFrames cs).clen
      ↔ s.ibufLenN = (containerOf (cs ++ [c])).length := h.cursor_eq_clen_iff
  rw [acceptFrame, hnext, hcount, ho, if_congr hclen rfl rfl]
  simp only [State.afterFrames, List.getLast?_concat, Option.elim_some, lastFrameOffset_concat]
  rfl

/-- One pass of the loop, over the frame that follows those of cs. -/
theorem contNextBody_afterFrames {s : State} {cs : List Chunk} {c : Chunk} (h : s.HoldsContainer (cs ++ [c]))
    (ho : (s.afterFrames cs).cstate = .opened) :
    contNextBody (s.afterFrames cs) = (s.afterFrames (cs ++ [c]), .complete) := by
  obtain ⟨hcs, hwf, hfits, hread⟩ := (s.holdsContainer_concat_iff cs c).1 h
  rw [← hcs.afterFrames_cursorN] at hfits hread
  have hframe : (s.afterFrames cs).FrameAt (s.afterFrames cs).cursorN (s.afterFrames cs).clenN c :=
    ⟨hwf, hfits, (s.memRead_afterFrames ..).trans hread⟩
  rw [contNextBody_of_ok ho hframe.frameAtCursor, acceptFrame_afterFrames h ho]

/-- After the frames of cs a pass that completes takes the frame of one more chunk. -/
theorem contNextBody_afterFrames_complete {s t : State} {cs : List Chunk} (hcs : s.HoldsContainer cs)
    (ho : (s.afterFrames cs).cstate = .opened) (h : contNextBody (s.afterFrames cs) = (t, .complete)) :
    ∃ c, s.HoldsContainer (cs ++ [c]) ∧ t = s.afterFrames (cs ++ [c]) := by
  cases hfound : (s.afterFrames cs).frameAtCursor with
  | err code =>
    rw [contNextBody_of_err ho hfound] at h
    cases h
  | ok l ty crc =>
    obtain ⟨c, hwf, hfits, hread⟩ := State.frameAt_of_frameAtCursor hfound
    rw [hcs.afterFrames_cursorN] at hfits hread
    have hc : s.HoldsContainer (cs ++ [c]) :=
      (s.holdsContainer_concat_iff cs c).2 ⟨hcs, hwf, hfits, (s.memRead_afterFrames ..).symm.trans hread⟩
    rw [contNextBody_afterFrames hc ho] at h
    cases h
    exact ⟨c, hc, rfl⟩

/-- CONT_VERIFY's body on a buffer that begins with the container of cs: its loop takes all of the frames, and then has
passes left for the rest (43_container.md R195). -/
theorem contVerifyBody_takes_frames {s : State} {cs : List Chunk} (h : s.HoldsContainer cs) :
    ∃ fuel, s.ibufLenN - (containerOf cs).length < 12 * fuel
      ∧ contVerifyBody s = verifyLoop fuel (s.afterFrames cs) := by
  induction cs using List.reverseRecOn with
  | nil =>
    refine ⟨(s.afterFrames []).verifyFuel, ?_, by rw [contVerifyBody, h.contBeginBody]⟩
    have hclen : (s.afterFrames []).clenN = s.ibufLenN := rfl
    rw [State.verifyFuel, hclen]
    omega
  | append_singleton cs c ih =>
    obtain ⟨hcs, hc⟩ := (s.holdsContainer_concat_iff cs c).1 h
    have hfits := hc.fits
    have hlen := containerOf_concat_length cs hc.wf
    rw [Chunk.wire_length hc.wf] at hfits
    obtain ⟨fuel, hfuel, hloop⟩ := ih hcs
    obtain ⟨fuel, rfl⟩ : ∃ n, fuel = n + 1 := ⟨fuel - 1, by omega⟩
    have ho := (s.afterFrames_cstate_eq_opened_iff cs).2 (by omega)
    refine ⟨fuel, by omega, ?_⟩
    rw [hloop, verifyLoop, if_pos ho, contNextBody_afterFrames h ho]

/-- On a container the loop takes every frame and stops (43_container.md R195). -/
theorem contVerifyBody_of_container {s : State} {cs : List Chunk} (h : s.HoldsContainer cs)
    (hend : s.ibufLenN = (containerOf cs).length) : contVerifyBody s = (s.afterFrames cs, .complete) := by
  obtain ⟨fuel, hfuel, hloop⟩ := contVerifyBody_takes_frames h
  have hended := mt (s.afterFrames_cstate_eq_opened_iff cs).1 (not_not_intro hend)
  obtain ⟨fuel, rfl⟩ : ∃ n, fuel = n + 1 := ⟨fuel - 1, by omega⟩
  rw [hloop, verifyLoop, if_neg hended]

/-- On a container that a bad frame follows the loop takes every frame, and fails at the bad one (43_container.md R195). -/
theorem contVerifyBody_of_badFrame {s : State} {cs : List Chunk} {code : ErrCode} (h : s.HoldsContainer cs)
    (hmore : (containerOf cs).length < s.ibufLenN) (hbad : (s.afterFrames cs).frameAtCursor = .err code) :
    contVerifyBody s = frameError (s.afterFrames cs) code := by
  obtain ⟨fuel, hfuel, hloop⟩ := contVerifyBody_takes_frames h
  have ho := (s.afterFrames_cstate_eq_opened_iff cs).2 hmore.ne'
  obtain ⟨fuel, rfl⟩ : ∃ n, fuel = n + 1 := ⟨fuel - 1, by omega⟩
  rw [hloop, verifyLoop, if_pos ho, contNextBody_of_err ho hbad]
  rfl

/-- CONT_VERIFY's body completes only after the frames of a container that is all of IBUF[0..IBUF_LEN]
(43_container.md R195). -/
theorem contVerifyBody_complete {s t : State} (h : contVerifyBody s = (t, .complete)) :
    ∃ cs, s.HoldsContainer cs ∧ s.ibufLenN = (containerOf cs).length ∧ t = s.afterFrames cs := by
  refine contVerifyBody_rule (P := fun u => ∃ cs, s.HoldsContainer cs ∧ u = s.afterFrames cs)
    (Q := fun r => r = (t, .complete) →
      ∃ cs, s.HoldsContainer cs ∧ s.ibufLenN = (containerOf cs).length ∧ t = s.afterFrames cs)
    ?begin_fails ?begins ?pass ?fail ?stop h
  case begin_fails => exact fun _ _ _ _ => nofun
  case begins =>
    intro u hu
    have hnil := State.holdsContainer_nil_of_begin hu
    rw [hnil.contBeginBody] at hu
    cases hu
    exact ⟨[], hnil, rfl⟩
  case pass =>
    rintro _ u ⟨cs, hcs, rfl⟩ ho hu
    obtain ⟨c, hc, rfl⟩ := contNextBody_afterFrames_complete hcs ho hu
    exact ⟨cs ++ [c], hc, rfl⟩
  case fail => exact fun _ _ _ _ _ _ _ => nofun
  case stop =>
    rintro _ ⟨cs, hcs, rfl⟩ hstopped ht
    cases ht
    exact ⟨cs, hcs, not_not.1 (mt (s.afterFrames_cstate_eq_opened_iff cs).2 hstopped), rfl⟩

/-- What CONT_NEXT finds after the frames of cs when no good frame stands there below IBUF_LEN (43_container.md R194). -/
theorem State.HoldsContainer.frameAtCursor_bad {s : State} {cs : List Chunk} {p l : Nat} (h : s.HoldsContainer cs)
    (hp : p = (containerOf cs).length) (hl : l = (s.be32At p).toNat)
    (hbad : s.ibufLenN < p + 12 + l ∨ crc32 (s.memRead (p + 4) (4 + l)) ≠ s.be32At (p + 8 + l)) :
    (s.afterFrames cs).frameAtCursor = .err (if s.ibufLenN < p + 12 + l then .truncated else .crcMismatch) := by
  subst hl
  have hcursor : (s.afterFrames cs).cursorN = p := hp ▸ h.afterFrames_cursorN
  by_cases hshort : s.ibufLenN < p + 12 + (s.be32At p).toNat
  · rw [if_pos hshort]
    refine State.frameAtCursor_of_short ?_
    rw [hcursor]
    exact hshort
  · have hcrc := hbad.resolve_left hshort
    rw [← s.memRead_afterFrames cs] at hcrc
    rw [if_neg hshort, State.frameAtCursor_of_fits, hcursor]
    · exact State.parseFrame_of_badCrc hcrc
    · rw [hcursor]
      exact Nat.le_of_not_lt hshort

/-- Settles O37: the loop takes the frames of the container one by one, and stops at CLEN. -/
theorem contVerifyAcceptsContainers : Obligations.ContVerifyAcceptsContainers := by
  unfold Obligations.ContVerifyAcceptsContainers
  intro s cs hwf hclear hsize hread
  have hend : s.ibufLenN = (containerOf cs).length := by rw [← hread, State.memRead_length]
  have hcs : s.HoldsContainer cs := ⟨hsize, hwf, hend.ge, by rw [← hend, hread]⟩
  rw [exec_eq_finish, commandBody, contVerifyBody_of_container hcs hend]
  refine ⟨_, rfl, ⟨rfl, rfl, hclear.1, hclear.2⟩, ?ended, rfl, ?cursor, hcs.afterFrames_chunkCount, ?none,
    fun c hc => ?last⟩
  case ended => exact if_pos hend
  case cursor => exact hcs.cursor_eq_clen_iff.2 hend
  case none =>
    rintro rfl
    exact ⟨rfl, rfl, rfl, rfl⟩
  case last => exact { s.afterFrames_resultIs hc with }

/-- Settles O38: CONT_VERIFY ends with NONE only when its loop has taken the frames up to CLEN. -/
theorem contVerifyAcceptsOnlyContainers : Obligations.ContVerifyAcceptsOnlyContainers := by
  unfold Obligations.ContVerifyAcceptsOnlyContainers
  intro s t hclear hexec herr
  rw [exec_eq_finish, commandBody] at hexec
  cases hexec
  match hbody : contVerifyBody s with
  | (t, .complete) =>
    obtain ⟨cs, hcs, hend, rfl⟩ := contVerifyBody_complete hbody
    exact ⟨hcs.size, cs, hcs.wf, by rw [hend, hcs.read], hcs.afterFrames_chunkCount⟩
  | (t, .raise code off) =>
    have hmoves := contVerifyBody_moves s
    rw [hbody] at hmoves herr
    exact absurd herr hmoves.2

/-- Settles O39: the loop takes the frames of cs, and then finds the bad one. -/
theorem contVerifyStopsAtTheBadFrame : Obligations.ContVerifyStopsAtTheBadFrame := by
  unfold Obligations.ContVerifyStopsAtTheBadFrame
  intro s cs p l hwf _ hsize hp hmore hread hl hbad
  have hcs : s.HoldsContainer cs := ⟨hsize, hwf, by omega, hp ▸ hread⟩
  rw [exec_eq_finish, commandBody, contVerifyBody_of_badFrame hcs (hp ▸ hmore) (hcs.frameAtCursor_bad hp hl hbad)]
  subst hp
  refine ⟨_, rfl, ⟨rfl, rfl, rfl, rfl⟩, rfl, rfl, hcs.afterFrames_cursorN, hcs.afterFrames_chunkCount, ?none,
    fun c hc => ?last⟩
  case none =>
    rintro rfl
    exact ⟨rfl, rfl, rfl, rfl⟩
  case last => exact { s.afterFrames_resultIs hc with }

end Sys2Proof.Machine

namespace Sys2Proof.Machine

/-! ### How a command's body ends

A completion with an error differs from one command to another only in what its body has written before it raises, and in
the offset it reports; one law per body says both (60_exceptions.md R225, R226). -/

/-- The command i's body, run from s, may end so. -/
inductive BodyEnds (i : Instr) (s : State) : State × Ending → Prop
  /-- Completed, with ERR and ERR_OFF as they stand from issue. -/
  | complete {t : State} (clear : s.IssueClear → t.IssueClear) : BodyEnds i s (t, .complete)
  /-- An operand, the session or the input is refused before anything is written. -/
  | refuse {code : ErrCode} (hcode : code.isFrameError = false ∧ code ≠ .noError) : BodyEnds i s (s, .raise code 0)
  /-- CHUNK_VERIFY's region is no frame (42_chunk.md R165). -/
  | badRegion {code : ErrCode} (hi : i = .chunkVerify) (hcode : code.isFrameError = true) :
      BodyEnds i s (s, .raise code s.src)
  /-- A container's size or signature is bad, and the session FAILED before any frame (43_container.md R193). -/
  | notBegun {code : ErrCode} (cs : CState) (cursor clen count : Word) (hi : i = .contBegin ∨ i = .contVerify)
      (hcode : code.isFrameError = false ∧ code ≠ .noError) :
      BodyEnds i s (s.withSession cs cursor clen count, .raise code 0)
  /-- CONT_NEXT's frame is bad, and the session FAILED at CURSOR (43_container.md R194). -/
  | badFrame {code : ErrCode} (hi : i = .contNext) (hcode : code.isFrameError = true) : BodyEnds i s (frameError s code)
  /-- One of CONT_VERIFY's frames is bad, after the good ones it has accepted (43_container.md R195). -/
  | badContainer {u : State} {code : ErrCode} (hi : i = .contVerify) (hu : s.ContainerWritten u)
      (hcode : code.isFrameError = true) : BodyEnds i s (frameError u code)

theorem crcRangeBody_ends (s : State) : BodyEnds .crcRange s (crcRangeBody s) := by
  unfold crcRangeBody
  split
  · exact .complete id
  · exact .refuse (by decide)

theorem tagLoadTextBody_ends (s : State) : BodyEnds .tagLoadText s (tagLoadTextBody s) := by
  unfold tagLoadTextBody
  split
  · split
    · exact .refuse (by decide)
    · split
      · exact .complete id
      · exact .refuse (by decide)
  · exact .refuse (by decide)

theorem tagLoadBytesBody_ends (s : State) : BodyEnds .tagLoadBytes s (tagLoadBytesBody s) := by
  unfold tagLoadBytesBody
  split
  · exact .complete id
  · exact .refuse (by decide)

theorem chunkNewBody_ends (s : State) : BodyEnds .chunkNew s (chunkNewBody s) := by
  unfold chunkNewBody
  split
  · exact .complete id
  · exact .refuse (by decide)

/-- The three errors of parse_frame are the frame errors (42_chunk.md R162, 60_exceptions.md R226). -/
theorem State.parseFrame_err_isFrameError {s : State} {a n : Nat} {code : ErrCode} (h : s.parseFrame a n = .err code) :
    code.isFrameError = true := by
  rcases State.parseFrame_err h with rfl | rfl | rfl <;> rfl

theorem chunkVerifyBody_ends (s : State) : BodyEnds .chunkVerify s (chunkVerifyBody s) := by
  unfold chunkVerifyBody
  split
  · split
    · next herr => exact .badRegion rfl (State.parseFrame_err_isFrameError herr)
    · exact .complete id
  · exact .refuse (by decide)

/-- CONT_BEGIN's body ends so as CONT_VERIFY's first part, too (43_container.md R195). -/
theorem contBeginBody_ends {i : Instr} (hi : i = .contBegin ∨ i = .contVerify) (s : State) :
    BodyEnds i s (contBeginBody s) := by
  rcases contBeginBody_cases s with ⟨-, e⟩ | ⟨-, -, e⟩ | ⟨-, -, -, e⟩ <;> rw [e]
  · exact .notBegun _ _ _ _ hi (by decide)
  · exact .notBegun _ _ _ _ hi (by decide)
  · exact .complete id

/-- With an OPEN session CONT_NEXT's body meets a bad frame or accepts a good one (43_container.md R194). -/
theorem contNextBody_frameError_or_acceptFrame {s : State} (ho : s.cstate = .opened) :
    (∃ code, code.isFrameError = true ∧ contNextBody s = frameError s code)
    ∨ ∃ l t c, contNextBody s = (acceptFrame s l t c, .complete) := by
  rcases contNextBody_open ho with ⟨-, e⟩ | ⟨-, -, e⟩ | ⟨-, -, e⟩
  · exact .inl ⟨_, rfl, e⟩
  · exact .inl ⟨_, rfl, e⟩
  · exact .inr ⟨_, _, _, e⟩

theorem contNextBody_ends (s : State) : BodyEnds .contNext s (contNextBody s) := by
  by_cases ho : s.cstate = .opened
  · rcases contNextBody_frameError_or_acceptFrame ho with ⟨_, hcode, e⟩ | ⟨_, _, _, e⟩ <;> rw [e]
    · exact .badFrame rfl hcode
    · exact .complete id
  · rw [contNextBody_closed ho]
    exact .refuse (by decide)

theorem State.ContainerWritten.issueClear {s t : State} (h : s.ContainerWritten t) (hs : s.IssueClear) : t.IssueClear := by
  obtain ⟨_, _, _, _, _, _, _, _, rfl⟩ := h
  exact hs

/-- CONT_VERIFY ends with CONT_BEGIN's error, with the first bad frame's, or with none (43_container.md R195). -/
theorem contVerifyBody_ends (s : State) : BodyEnds .contVerify s (contVerifyBody s) := by
  refine contVerifyBody_rule (P := s.ContainerWritten) (Q := BodyEnds .contVerify s)
    ?begin_fails ?begins ?pass ?fail ?stop
  case begin_fails => exact fun _ _ _ e => e ▸ contBeginBody_ends (.inr rfl) s
  case begins =>
    intro t e
    obtain ⟨cs, cursor, clen, count, hwritten⟩ := e ▸ (contBeginBody_bounds s).writes
    exact ⟨cs, cursor, clen, count, _, _, _, _, hwritten⟩
  case pass =>
    intro u t hu _ e
    have hwritten := (contNextBody_bounds u).writes
    rw [e] at hwritten
    exact hu.trans hwritten
  case fail =>
    intro u t code off hu ho e
    rcases contNextBody_frameError_or_acceptFrame ho with ⟨_, hcode, hbad⟩ | ⟨_, _, _, hgood⟩
    · rw [← e, hbad]
      exact .badContainer rfl hu hcode
    · rw [hgood] at e
      cases e
  case stop => exact fun _ hu _ => .complete hu.issueClear

theorem sigEmitBody_ends (s : State) : BodyEnds .sigEmit s (sigEmitBody s) := by
  unfold sigEmitBody
  split
  · exact .complete id
  · exact .refuse (by decide)

theorem commandBody_ends (i : Instr) (s : State) : BodyEnds i s (commandBody i s) := by
  cases i with
  | nop | crcInit => exact .complete id
  | crcRange => exact crcRangeBody_ends s
  | tagLoadText => exact tagLoadTextBody_ends s
  | tagLoadBytes => exact tagLoadBytesBody_ends s
  | chunkNew => exact chunkNewBody_ends s
  | chunkVerify => exact chunkVerifyBody_ends s
  | contBegin => exact contBeginBody_ends (.inl rfl) s
  | contNext => exact contNextBody_ends s
  | contVerify => exact contVerifyBody_ends s
  | sigEmit => exact sigEmitBody_ends s

/-- After a command: the completion that its body ended in (60_exceptions.md R224). -/
theorem exec_ends {i : Instr} {s t : State} (h : exec i s = .next t) : ∃ r, BodyEnds i s r ∧ t = finish r := by
  rw [exec_eq_finish] at h
  cases h
  exact ⟨_, commandBody_ends i s, rfl⟩

/-! ### The completions -/

theorem State.raiseError_completed (s : State) (code : ErrCode) (off : Word) :
    (s.raiseError code off).Completed code off :=
  ⟨rfl, rfl, rfl, rfl⟩

theorem ErrCode.ne_noError_of_isFrameError {code : ErrCode} (h : code.isFrameError = true) : code ≠ .noError := by
  rintro rfl
  cases h

/-- No command raises NONE (60_exceptions.md R221). -/
theorem BodyEnds.raise_ne_noError {i : Instr} {s t : State} {code : ErrCode} {off : Word}
    (h : BodyEnds i s (t, .raise code off)) : code ≠ .noError := by
  cases h with
  | refuse hcode | notBegun _ _ _ _ _ hcode => exact hcode.2
  | badRegion _ hcode | badFrame _ hcode | badContainer _ _ hcode => exact ErrCode.ne_noError_of_isFrameError hcode

/-- Settles O8: exec is a completion of what the body leaves, and a body that raises has an error. -/
theorem everyCommandCompletes : Obligations.EveryCommandCompletes := by
  unfold Obligations.EveryCommandCompletes
  refine fun i s hclear => ⟨_, exec_eq_finish i s, ?_⟩
  match commandBody i s, commandBody_ends i s with
  | (t, .complete), .complete clear =>
    rw [finish_complete, (clear hclear).complete]
    exact .inl (t.raiseError_completed .noError 0)
  | (t, .raise code off), h => exact .inr ⟨code, off, h.raise_ne_noError, t.raiseError_completed code off⟩

/-- Settles O10: the frame errors are raised at SRC or CURSOR, and all others at 0, as a bad word's is. -/
theorem errorOffsetAfterCompletion : Obligations.ErrorOffsetAfterCompletion := by
  unfold Obligations.ErrorOffsetAfterCompletion
  refine ⟨fun i s t hclear h => ?command, fun s t w why hr hp hd h => ?bad⟩
  case command =>
    obtain ⟨_, hends, rfl⟩ := exec_ends h
    cases hends with
    | complete clear =>
      rw [finish_complete, (clear hclear).complete]
      exact ⟨fun _ => rfl, nofun⟩
    | refuse hcode | notBegun _ _ _ _ _ hcode =>
      exact ⟨fun _ => rfl, fun hframe => absurd hframe (ne_true_of_eq_false hcode.1)⟩
    | badRegion hi hcode => exact ⟨fun hframe => absurd hcode (ne_true_of_eq_false hframe), fun _ => .inl ⟨hi, rfl⟩⟩
    | badFrame hi hcode =>
      exact ⟨fun hframe => absurd hcode (ne_true_of_eq_false hframe), fun _ => .inr ⟨.inl hi, rfl⟩⟩
    | badContainer hi _ hcode =>
      exact ⟨fun hframe => absurd hcode (ne_true_of_eq_false hframe), fun _ => .inr ⟨.inr hi, rfl⟩⟩
  case bad =>
    rw [engineTurn_of_badCommandWord hr hp hd] at h
    cases h
    rfl

/-- Settles O11: a body that raises has written nothing but, in the CONT commands, the session, and in CONT_VERIFY the
results. -/
theorem noPartialEffectOnError : Obligations.NoPartialEffectOnError := by
  unfold Obligations.NoPartialEffectOnError
  intro i s t hclear h herr
  obtain ⟨_, hends, rfl⟩ := exec_ends h
  cases hends with
  | complete clear =>
    rw [finish_complete, (clear hclear).complete] at herr
    exact absurd rfl herr
  | refuse | badRegion | notBegun | badFrame => exact ⟨⟨fun _ => rfl, rfl⟩, rfl, rfl, fun _ => ⟨rfl, rfl, rfl, rfl⟩⟩
  | badContainer hi hu =>
    obtain ⟨_, _, _, _, _, _, _, _, rfl⟩ := hu
    exact ⟨⟨fun _ => rfl, rfl⟩, rfl, rfl, fun hne => absurd hi hne⟩

/-! ### The IRQ level -/

theorem State.irq_iff (s : State) : s.irq = true ↔ s.ie = true ∧ s.done = true := Bool.and_eq_true_iff

/-- IRQ is low while DONE = 0 (60_exceptions.md R229). -/
theorem State.irq_of_not_done {s : State} (h : s.done = false) : s.irq = false := by
  rw [State.irq, h, Bool.and_false]

/-- Every completion, with an error or without, raises IRQ when IE = 1 (60_exceptions.md R229, R230). -/
theorem exec_irq {i : Instr} {s t : State} (h : exec i s = .next t) : t.irq = s.ie := by
  have hie := (exec_hostSideSame h).ie
  obtain ⟨u, code, off, -, rfl⟩ := exec_writes h
  rw [State.irq, (u.raiseError_completed code off).done, Bool.and_true, hie]

/-- Settles O58: IRQ by its definition, the completions, and the three host writes and the release that clear IE or DONE. -/
theorem irqIsEnabledCompletion : Obligations.IrqIsEnabledCompletion := by
  unfold Obligations.IrqIsEnabledCompletion
  refine fun s v => ⟨s.irq_iff, fun i t h => exec_irq h, fun _ _ _ => rfl,
    fun hr => ⟨fun hv => ?status, fun hb => ?cmd, fun hv => ?soft⟩, fun hr => ?release⟩
  case status =>
    have hdone : (s.writeStatus v).done = false := by rw [State.writeStatus, hv, Bool.not_true, Bool.and_false]
    rw [State.write_status hr, State.irq_of_not_done hdone]
  case cmd => rw [State.write_cmd_of_idle hr hb, State.irq_of_not_done (State.issue_done s v)]
  case soft =>
    rw [State.write_ctrl hr, State.writeCtrl, if_pos hv]
    rfl
  case release =>
    rw [State.releaseReset, if_pos hr]
    rfl

end Sys2Proof.Machine

namespace Sys2Proof.Machine

/-! ### The reset values

Every register of t stands at its reset value when resetting the registers again changes nothing: `t.resetRegisters = t`.
The state after reset and the one after the release of the reset input are so, and the values of 70_reset_and_hazards.md R250
are then read off. -/

theorem State.resetRegisters_resetWith (p : Params) : (State.resetWith p).resetRegisters = State.resetWith p := rfl

theorem State.releaseReset_of_inReset {s : State} (hr : s.inReset = true) : s.releaseReset
    = { s.resetRegisters with ibuf := [], obuf := [], inReset := false, epoch := s.epoch + 1 } := if_pos hr

theorem State.resetRegisters_releaseReset {s : State} (hr : s.inReset = true) :
    s.releaseReset.resetRegisters = s.releaseReset := by
  rw [State.releaseReset_of_inReset hr]
  rfl

theorem State.resetRegisters_statusWord (s : State) : s.resetRegisters.statusWord = 0 := by
  have hzero : State.reset.statusWord = 0 := by decide
  exact hzero

/-- CRC_OUT is the CRC of no bytes (40_crc.md R127). -/
theorem State.resetRegisters_crcOut (s : State) : s.resetRegisters.crcOut = 0 := BitVec.xor_self

/-- A zero tag is CRITICAL, PUBLIC, RESERVED_VALID, VALID and ASCII (41_tag.md R142). -/
theorem taginfo_zero : taginfo 0 = 0x57 := by decide

/-- The invariant holds with nothing in the buffers and no session (70_reset_and_hazards.md R250, R251). -/
theorem State.inv_resetWith {p : Params} (hp : p.wf = true) : (State.resetWith p).Inv where
  params_legal := hp
  ibuf_wf := .nil
  obuf_wf := .nil
  ibuf_within := nofun
  obuf_within := nofun
  cursor_le_clen := Nat.le_refl _
  clen_le_bufSize := Nat.zero_le _
  idle_session _ := ⟨rfl, rfl, rfl⟩
  open_session := nofun
  ended_session := nofun
  count_le_cursor := Nat.le_refl _
  issued := nofun
  err_never := ⟨nofun, nofun⟩
  errOff_zero _ := rfl

/-- Settles O44: the default parameters are legal ones. -/
theorem resetMeetsTheInvariant : Obligations.ResetMeetsTheInvariant := by
  unfold Obligations.ResetMeetsTheInvariant
  have hdefault : Config.defaultParams.wf = true := by decide
  exact ⟨State.inv_resetWith hdefault, fun _ hp => State.inv_resetWith hp⟩

/-- While the reset input is asserted no write has an effect (70_reset_and_hazards.md R250). -/
theorem State.hostAccess_write_inReset {s : State} (hr : s.inReset = true) (w : Width) (addr : Nat) (v : Word) :
    s.hostAccess (.write w addr v) = s := by
  rw [State.hostAccess]
  split
  · rfl
  · exact if_pos hr

/-- Settles O56: in reset a read only answers, and both states after reset have their registers at the reset values. -/
theorem hardwareResetValues : Obligations.HardwareResetValues := by
  unfold Obligations.HardwareResetValues
  refine fun s hr => ⟨State.hostAccess_write_inReset hr, fun w o ho => ?read,
    fun w a hout => (s.hostAccess_outside hout w).1, fun t ht => ?values⟩
  case read => exact ⟨_, _, s.hostAccess_read_inReset w ho hr⟩
  case values =>
    have hreleased : t.inReset = false ∧ t.resetRegisters = t := by
      rcases ht with rfl | rfl
      · exact ⟨by rw [State.releaseReset_of_inReset hr], State.resetRegisters_releaseReset hr⟩
      · exact ⟨rfl, State.resetRegisters_resetWith _⟩
    obtain ⟨hinReset, hregisters⟩ := hreleased
    refine ⟨hinReset, ?_⟩
    rw [← hregisters]
    exact ⟨rfl, t.resetRegisters_statusWord, rfl, rfl, rfl, rfl, rfl, rfl, rfl, rfl, rfl, rfl, rfl,
      t.resetRegisters_crcOut, rfl, taginfo_zero, rfl, rfl, rfl, rfl, taginfo_zero, rfl⟩

/-! ### OBUF after a soft reset -/

/-- A torn store leaves each byte as it was or as the whole store would have left it (70_reset_and_hazards.md R252). -/
theorem Memory.byteAt_storeTorn_old_or_new (m : Memory) (n i a x : Nat) (bs : List Byte) :
    (Memory.storeTorn n i m a bs).byteAt x = m.byteAt x
    ∨ (Memory.storeTorn n i m a bs).byteAt x = (m.storeBytes a bs).byteAt x := by
  by_cases hout : x < a ∨ a + bs.length ≤ x
  · exact .inl (Memory.byteAt_storeTorn_outside hout)
  · obtain ⟨k, rfl⟩ : ∃ k, x = a + k := ⟨x - a, by omega⟩
    have hk : k < bs.length := by omega
    rw [Memory.byteAt_storeTorn_inside hk, Memory.byteAt_storeBytes_inside hk]
    exact (ite_eq_or_eq ..).symm

theorem State.abandonedObuf_of_command {s : State} {i : Instr} (h : s.inFlight = some (.command i)) :
    s.abandonedObuf = Memory.storeTorn s.draws 0 s.obuf s.optrN (s.obufWrite i) := by
  rw [State.abandonedObuf, h]

/-- With no command in flight, or a bad word, there is nothing to tear. -/
theorem State.abandonedObuf_of_no_command {s : State} (h : ∀ i, s.inFlight ≠ some (.command i)) :
    s.abandonedObuf = s.obuf := by
  rw [State.abandonedObuf]
  split
  · next i hi => exact absurd hi (h i)
  · rfl

/-- An OBUF byte after a soft reset is the old one or the one the abandoned command would have left. -/
theorem State.softReset_obufByte_of_command {s u : State} {i : Instr} (hi : s.inFlight = some (.command i))
    (hu : exec i s = .next u) (a : Nat) :
    s.softReset.bufByte .obuf a = s.bufByte .obuf a ∨ s.softReset.bufByte .obuf a = u.bufByte .obuf a := by
  have hepoch : s.softReset.epoch = u.epoch := (exec_hostSideSame hu).epoch.symm
  have htorn := Memory.byteAt_storeTorn_old_or_new s.obuf s.draws 0 s.optrN a (s.obufWrite i)
  rw [← State.abandonedObuf_of_command hi, ← exec_obuf hu] at htorn
  exact htorn.imp (State.bufByte_congr rfl) (State.bufByte_congr hepoch)

theorem State.softReset_obufByte_of_no_command {s : State} (h : ∀ i, s.inFlight ≠ some (.command i)) (a : Nat) :
    s.softReset.bufByte .obuf a = s.bufByte .obuf a :=
  State.bufByte_congr rfl (congrArg (Memory.byteAt · a) (State.abandonedObuf_of_no_command h))

/-- Settles O57: the write is the soft reset, which resets the registers and tears no more than the store that the
abandoned command would have made. -/
theorem softReset : Obligations.SoftReset := by
  unfold Obligations.SoftReset
  intro s t v hr hv ht
  have hsoft : t = s.softReset := by rw [ht, State.write_ctrl hr, State.writeCtrl, if_pos hv]
  subst hsoft
  exact ⟨rfl, s.resetRegisters_statusWord, rfl, rfl, rfl, rfl, rfl, rfl, rfl, rfl, rfl, rfl, rfl, rfl, rfl,
    ⟨rfl, rfl, rfl, rfl⟩, fun _ => rfl, fun _ _ hi hu => State.softReset_obufByte_of_command hi hu,
    State.softReset_obufByte_of_no_command⟩

end Sys2Proof.Machine
